-- ==== Sys2Proof/Word.lean ====
section
/-! DEFINITION. The words of the PA716's two burst ports (spec 00 section 2.7): a byte, a 64-bit beat and a
40-bit address, and the numbers of the part's fixed tables. -/

namespace Sys2Proof

/-- A byte of a record or of a beat. -/
abbrev Byte := BitVec 8

/-- A byte address on either port (spec 00 section 2.7: 40 bits). -/
abbrev Addr := BitVec 40

/-- The 8 bytes that a beat carries. -/
abbrev Word := BitVec 64

/-- A track slot, 0..15 (spec 00 section 2.11). -/
abbrev Slot := Fin 16

/-- A mixer lane, 0..3 (spec 00 section 2.11). -/
abbrev LaneNo := Fin 4

/-- A window table entry number, 0..33 (R2). -/
abbrev EntryNo := Fin 34

end Sys2Proof
end

