-- ==== Sys2Proof/Syntax.lean ====
section
/-! DEFINITION. The commands of the PA716: one constructor for each row of spec/opcode_table.json. A command is one
whole and indivisible step of the part (spec 95): something that arrives at one of its ports or pins, or an event of
its own (a grant, a timer's expiry, the taking of a directive, the start of a report). -/

namespace Sys2Proof

/-- One beat of a write burst: 8 bytes and one strobe for each of them (spec 00 section 2.7). -/
structure Beat where
  data : Word
  strobes : BitVec 8
  deriving DecidableEq, Repr

/-- The one response that answers a burst (spec 00 section 2.7). -/
inductive Resp where
  | ok
  | error
  deriving DecidableEq, Repr

/-- The part's commands. The identifier `id` of an upstream burst is its issuer's (R1). The identifier `tag` of a
memory port response is the part's own, given when the burst was granted (R1, R17). A directive command takes no
operand: it is the event in which the directive engine takes the oldest entry of its queue (R25), and the record that
carries its fields came earlier, as the data of an UPSTREAM_WRITE into the control window (R20, R22). -/
inductive Instr where
  /-- RESET_N falls (R171). -/
  | resetAssert
  /-- RESET_N is released with this value on the CWB straps (R171). -/
  | resetRelease (cwb : BitVec 16)
  /-- An upstream write burst arrives (R9). -/
  | upstreamWrite (id : Nat) (addr : Addr) (beats : List Beat)
  /-- An upstream read burst of `count` beats arrives (R12). -/
  | upstreamRead (id : Nat) (addr : Addr) (count : Nat)
  /-- The arbiter makes a grant (R15). -/
  | memoryGrant
  /-- The hold timer of the held burst expires (R154). -/
  | holdTimerExpiry
  /-- The response to a sample read arrives (R151). -/
  | prefetchResponse (tag : Nat) (resp : Resp) (data : List Word)
  /-- The response to a forwarded read arrives (R8). -/
  | throughReadResponse (tag : Nat) (resp : Resp) (data : List Word)
  /-- The response to a forwarded write arrives (R1). -/
  | throughWriteResponse (tag : Nat) (resp : Resp)
  /-- The response to a descriptor read arrives (R38). -/
  | descriptorResponse (tag : Nat) (resp : Resp) (data : List Word)
  /-- The response to a segment record burst arrives (R104). -/
  | recordWriteResponse (tag : Nat) (resp : Resp)
  /-- The report writer begins its oldest queued report (R164). -/
  | reportBegin
  /-- The response to a report burst arrives (R164). -/
  | reportWriteResponse (tag : Nat) (resp : Resp)
  /-- An OPEN TRACK directive is taken (R37). -/
  | openTrack
  /-- A CLOSE TRACK directive is taken (R44). -/
  | closeTrack
  /-- A FLUSH TRACK directive is taken (R48). -/
  | flushTrack
  /-- An ABORT TRACK directive is taken (R47). -/
  | abortTrack
  /-- A RETUNE TRACK directive is taken (R49). -/
  | retuneTrack
  /-- A RESUME TRACK directive is taken (R52). -/
  | resumeTrack
  /-- A SET REPORT RING directive is taken (R30). -/
  | setReportRing
  /-- A CLEAR BYPASS directive is taken (R33). -/
  | clearBypass
  /-- A directive whose kind field names no directive is taken (R27). -/
  | unknownDirective
  deriving DecidableEq, Repr

end Sys2Proof
end

