-- ==== Sys2Proof/Config.lean ====
section
/-! DEFINITION. The fixed sizes and limits of the part, as the spec states them. The spec leaves the part no free
value: nothing of this model is an opaque constant. -/

namespace Sys2Proof.Config

/-- Entries of the upstream write queue (R9). -/
def writeQueueDepth : Nat := 16

/-- Entries of the read list (R12). -/
def readListDepth : Nat := 16

/-- Bursts outstanding on the memory port at most (R15). -/
def outstandingLimit : Nat := 32

/-- The anti-starvation bound of the grant count (R16). -/
def starvationBound : Nat := 8

/-- Entries of the directive queue (R21). -/
def directiveQueueDepth : Nat := 8

/-- Entries of the post queue (R162). -/
def postQueueDepth : Nat := 16

/-- Entries of the cue pool (R79). -/
def cuePoolSize : Nat := 256

/-- Entries of the clip pool (R120). -/
def clipPoolSize : Nat := 64

/-- Fragments that one segment record lists at most (R100). -/
def fragmentLimit : Nat := 60

/-- Positions that the staging window spans (R149). -/
def stagingWindow : Nat := 4096

/-- Sample reads of one lane granted and not yet answered at most (R150). -/
def laneReadLimit : Nat := 4

/-- Audio frames of one meter block (R128). -/
def meterBlock : Nat := 4800

/-- Block sums that the meter history keeps (R128). -/
def meterHistory : Nat := 10

/-- The degrade level of the underrun counter (R158). -/
def degradeLevel : Nat := 8

/-- The fault level of the underrun counter (R159). -/
def faultLevel : Nat := 15

/-- The staging lead that ends DEGRADED handling (R159). -/
def recoveryLead : Nat := 2048

/-- Unity gain, U (spec 00 section 2.5). -/
def unity : Nat := 32768

/-- The last tick of a track's timeline (R64). -/
def timelineLimit : Nat := 4151263199

/-- The last position of the mix timeline (R143, R144). -/
def lastPosition : Nat := 4294967295

/-- Where the 16-bit counts stop (R24, R91, R113, R127, R142, R160, R163). -/
def countLimit : Nat := 65535

end Sys2Proof.Config
end

