-- ==== Sys2Proof/Machine/State.lean ====
section
/-! DEFINITION. The state of the PA716 as plain data, block by block (spec 00 section 1.3 names the block that owns each
part), the reasons a command can stop, and the state right after reset. -/

namespace Sys2Proof.Machine

open Sys2Proof

/-! ## Windows and the through-path (spec 01) -/

/-- The window kinds (spec 00 section 2.8). -/
inductive WindowKind where
  | control
  | report
  | textIntake
  | index
  | clipIntake
  | mix
  deriving DecidableEq, Repr

/-- The four fields of a live window entry (R2). `size` is in bytes. -/
structure Window where
  base : Addr
  size : Nat
  kind : WindowKind
  slot : Option Slot
  deriving DecidableEq, Repr

/-- A live window entry with its parity (R2): `parityOk` says whether the entry's parity check passes when it is read. -/
structure WindowEntry where
  window : Window
  parityOk : Bool
  deriving DecidableEq, Repr

/-- The result of the match of a burst, which travels with it (R3): the entry matched and its fields. -/
structure WindowMatch where
  entry : EntryNo
  window : Window
  deriving DecidableEq, Repr

/-- Where an entry of the write queue stands (R10): not yet dealt with at the head, ready with its data, or held. -/
inductive WriteStatus where
  | waiting
  | ready
  | held
  deriving DecidableEq, Repr

/-- One entry of the upstream write queue (R9). `beats` is the data to be written, which the mixer may replace.
`original` is the data as received. `arrival` numbers the upstream bursts in the order they arrived (R12, R14). -/
structure QueuedWrite where
  id : Nat
  addr : Addr
  beats : List Beat
  original : List Beat
  found : Option WindowMatch
  arrival : Nat
  status : WriteStatus
  deriving DecidableEq, Repr

/-- One entry of the read list (R12). `found` is kept only for a watched read (R8). -/
structure QueuedRead where
  id : Nat
  addr : Addr
  count : Nat
  found : Option WindowMatch
  arrival : Nat
  deriving DecidableEq, Repr

/-- The one burst that the through-path presents to the arbiter (R14): the head write, or the listed read with this
arrival number. -/
inductive Presented where
  | write
  | read (arrival : Nat)
  deriving DecidableEq, Repr

/-- The arbiter's six requesters, in rank order (R15). -/
inductive Requester where
  | urgentPrefetch
  | throughPath
  | recordWriter
  | descriptorReads
  | ordinaryPrefetch
  | reportWriter
  deriving DecidableEq, Repr

/-- What a burst outstanding on the memory port is for, so that its response can be routed (R17). -/
inductive Purpose where
  | throughRead (id : Nat) (found : Option WindowMatch)
  | throughWrite (id : Nat)
  | descriptor (slot : Slot) (capture : BitVec 16)
  | samples (lane : LaneNo)
  | record (slot : Slot)
  | report
  deriving DecidableEq, Repr

/-- A burst issued on the memory port and not yet answered (R15), with the identifier the part gave it (R1). -/
structure Outstanding where
  tag : Nat
  purpose : Purpose
  addr : Addr
  count : Nat
  deriving DecidableEq, Repr

/-- What the two ports show in one command: a burst issued on the memory port, a response given on the upstream port,
or an upstream burst that the port did not accept. -/
inductive PortEvent where
  | issueRead (tag : Nat) (who : Requester) (addr : Addr) (count : Nat)
  | issueWrite (tag : Nat) (who : Requester) (addr : Addr) (beats : List Beat)
  | answerRead (id : Nat) (resp : Resp) (data : List Word)
  | answerWrite (id : Nat) (resp : Resp)
  | notAccepted (id : Nat)
  deriving DecidableEq, Repr

/-- The arbiter's own state (R15, R16): the grant count and the slots and lane whose turn comes next. -/
structure Arbiter where
  grantCount : Nat
  recordTurn : Slot
  descriptorTurn : Slot
  laneTurn : LaneNo
  deriving DecidableEq, Repr

/-! ## Directives (spec 02) -/

/-- A captured directive (R21): the fields as captured, the directive slot it was written to and its capture number. -/
structure Directive where
  kind : Byte
  slotField : Byte
  operand1 : Word
  operand2 : Word
  operand3 : Word
  place : Nat
  capture : BitVec 16
  deriving DecidableEq, Repr

/-- An entry of the directive queue (R21). -/
structure QueuedDirective where
  directive : Directive
  parityOk : Bool
  deriving DecidableEq, Repr

/-- The device mode (R21). -/
inductive Mode where
  | normal
  | bypass
  deriving DecidableEq, Repr

/-- The directive engine's state (R21). The engine is WAITING exactly while it holds a current directive, and the
only directive it can hold is a SET REPORT RING that awaits its switch. -/
structure Engine where
  queue : List QueuedDirective
  current : Option Directive
  mode : Mode
  nextCapture : BitVec 16
  partialWrites : Nat
  deriving DecidableEq, Repr

/-- The reasons of DIRECTIVE REFUSED (R179's tables; spec 02 section 2.7, spec 03 section 3.11). -/
inductive RefusalReason where
  | queueFull
  | unknown
  | bypass
  | badSlot
  | ring
  | overlap
  | notBypass
  | notOpen
  | busy
  | address
  | memoryError
  | badKind
  | rate
  | dropFrame
  | origin
  | segment
  | reserve
  | noLane
  | wrongKind
  | state
  | timecode
  | full
  deriving DecidableEq, Repr

/-! ## Track settings (spec 03) -/

/-- The states of a track slot (R36). -/
inductive TrackState where
  | free
  | loading
  | running
  | stalled
  | degraded
  | draining
  | faulted
  deriving DecidableEq, Repr

/-- The two kinds of track (spec 00 section 1.1). -/
inductive TrackKind where
  | text
  | description
  deriving DecidableEq, Repr

/-- The stall policies (R51). -/
inductive StallPolicy where
  | auto
  | lock
  deriving DecidableEq, Repr

/-- The late policies (R77). -/
inductive LatePolicy where
  | shift
  | drop
  deriving DecidableEq, Repr

/-- The duck modes (R132). -/
inductive DuckMode where
  | fixed
  | trackDefault
  | autoFast
  | autoFull
  deriving DecidableEq, Repr

/-- The causes of FAULTED (R53). -/
inductive TrackFault where
  | recordError
  | underrun
  deriving DecidableEq, Repr

/-- A track's rate settings (R56). `origin` is an absolute frame count (R61). -/
structure RateSettings where
  code : Nat
  dropFrame : Bool
  origin : Nat
  deriving DecidableEq, Repr

/-- The four settings that RETUNE TRACK can change (R35, R49). -/
structure Tuning where
  segmentLength : Nat
  reorder : Nat
  stall : StallPolicy
  late : LatePolicy
  deriving DecidableEq, Repr

/-- The fixed settings of a TEXT track, after the clamps of R40. -/
structure TextSettings where
  rate : RateSettings
  intakeBase : Addr
  intakeSize : Nat
  indexBase : Addr
  indexSize : Nat
  reserve : Nat
  minGap : Nat
  minDuration : Nat
  cps : Nat
  columns : Nat
  deriving DecidableEq, Repr

/-- The settings of a DESCRIPTION track, after the clamps of R40. `lead` and `tail` are in ms, `holdLimit` in µs. -/
structure ClipSettings where
  rate : RateSettings
  intakeBase : Addr
  intakeSize : Nat
  mixBase : Addr
  mixSize : Nat
  reserve : Nat
  lead : Nat
  tail : Nat
  defaultGain : Nat
  defaultLevel : Nat
  defaultMode : DuckMode
  trim : Int
  fastThreshold : Nat
  fastBand : Nat
  deepPreset : Nat
  shallowPreset : Nat
  fullTarget : Nat
  gainFloor : Nat
  holdLimit : Nat
  deriving DecidableEq, Repr

/-! ## TEXT tracks (spec 05 and 06) -/

/-- The six flags of a cue pool entry (R73). -/
structure CueFlags where
  lateShifted : Bool
  moved : Bool
  gapClosed : Bool
  extended : Bool
  overrate : Bool
  overwidth : Bool
  deriving DecidableEq, Repr

/-- The status of a cue pool entry, with the last record of a RETIRED one (R79). -/
inductive CueStatus where
  | active
  | retired (lastRecord : Nat)
  deriving DecidableEq, Repr

/-- A cue pool entry in use (R79). `start` and `stop` are relative frame counts. -/
structure CueEntry where
  track : Slot
  intakeSlot : Nat
  hostId : BitVec 32
  start : Nat
  stop : Nat
  row : Nat
  height : Nat
  style : BitVec 4
  flags : CueFlags
  arrival : Nat
  status : CueStatus
  parityOk : Bool
  deriving DecidableEq, Repr

/-- The states of an index slot (R94). -/
inductive IndexSlot where
  | empty
  | writing
  | written
  | consumed
  deriving DecidableEq, Repr

/-- A fragment of a segment record (R99). The offsets are in ticks. -/
structure Fragment where
  intakeSlot : Nat
  hostId : BitVec 32
  startOffset : Nat
  endOffset : Nat
  row : Nat
  height : Nat
  style : BitVec 4
  contIn : Bool
  contOut : Bool
  flags : CueFlags
  deriving DecidableEq, Repr

/-- An assembled segment record (R102). -/
structure SegmentRecord where
  slot : Slot
  segment : Nat
  startTick : Nat
  lengthTicks : Nat
  fragments : List Fragment
  omitted : Nat
  overflow : Bool
  final : Bool
  deriving DecidableEq, Repr

/-- The record in flight (R93, R103): how many of its nine bursts have been granted, how many have been answered OK,
and the identifiers of those granted and not yet answered. -/
structure Flight where
  granted : Nat
  answered : Nat
  tags : List Nat
  deriving DecidableEq, Repr

/-- The 22 summary counters of a TEXT track, in the order of R169. -/
structure TextCounters where
  captured : Nat
  accepted : Nat
  droppedMalformed : Nat
  droppedLate : Nat
  droppedNoRoom : Nat
  droppedPool : Nat
  droppedDraining : Nat
  timecodeAdjusted : Nat
  lateShifted : Nat
  extended : Nat
  moved : Nat
  overrate : Nat
  overwidth : Nat
  gapClosures : Nat
  partialWrites : Nat
  recordsWritten : Nat
  emptyRecords : Nat
  overflowRecords : Nat
  fragmentsOmitted : Nat
  stalls : Nat
  earlyReads : Nat
  cuesReleased : Nat
  deriving DecidableEq, Repr

/-- A taken TEXT track: its settings and what cue intake and the segmenter hold for it (R35, R92, R93). The active list
is held as the ACTIVE entries of the cue pool (R86). `records` are the assembled records of the WRITING slots, oldest
first, so its head is the record in flight. `next` is k, `openStart` is B_open, `consume` is c. -/
structure TextTrack where
  settings : TextSettings
  tuning : Tuning
  pendingRetune : Option Tuning
  flushFrame : Option Nat
  drainEnd : Option Nat
  horizon : Option Nat
  nextArrival : Nat
  next : Nat
  openStart : Nat
  openLength : Nat
  consume : Nat
  slots : List IndexSlot
  records : List SegmentRecord
  flight : Option Flight
  waitingClose : Bool
  counters : TextCounters
  deriving DecidableEq, Repr

/-! ## DESCRIPTION tracks (spec 07, 08 and 09) -/

/-- The states of a clip on the schedule (R124). A clip that becomes DONE is retired in the same event (R125), so no
entry rests in that state. -/
inductive ClipState where
  | waiting
  | active
  | releasing
  deriving DecidableEq, Repr

/-- A clip pool entry in use (R120). `start` is s, `stop` is e, `lead` is L′, `level` is dg; all times are ticks. -/
structure ClipEntry where
  track : Slot
  intakeSlot : Nat
  hostId : BitVec 32
  start : Nat
  stop : Nat
  lead : Nat
  address : Addr
  level : Nat
  mode : DuckMode
  fixedGain : Nat
  gain : Option Nat
  shifted : Bool
  leadClipped : Bool
  state : ClipState
  parityOk : Bool
  deriving DecidableEq, Repr

/-- The fast decisions (R134). -/
inductive FastDecision where
  | shallow
  | deep
  deriving DecidableEq, Repr

/-- A lane's meter and gain state (R128). The history is oldest first, each sum with its block number. -/
structure Meter where
  history : List (Nat × Nat)
  block : Nat
  accumulator : Nat
  decision : FastDecision
  deriving DecidableEq, Repr

/-- A staged description sample (R149). `clip` is its clip's pool entry number. -/
structure StagedSample where
  clip : Nat
  index : Nat
  value : BitVec 16
  errorMark : Bool
  parityOk : Bool
  deriving DecidableEq, Repr

/-- A sample read granted and not yet answered (R143), with the abandoned mark of R151. -/
structure SampleRead where
  tag : Nat
  clip : Nat
  first : Nat
  count : Nat
  abandoned : Bool
  deriving DecidableEq, Repr

/-- A sample read requested and not yet granted (R150). `stamp` is the arrival number that the next upstream burst
had at the request: the writes before it that overlap are those the request waits for (R13). -/
structure SampleRequest where
  clip : Nat
  first : Nat
  count : Nat
  addr : Addr
  beats : Nat
  stamp : Nat
  deriving DecidableEq, Repr

/-- The mapping of a held burst (R143, R154): its first position and its number of audio frames. -/
structure HeldMapping where
  first : Nat
  frames : Nat
  deriving DecidableEq, Repr

/-- The hold timer (R143). RUNNING carries the hold limit, in µs, after which it expires; the passing of time is
not modelled, and the expiry is the command HOLD_TIMER_EXPIRY. -/
inductive HoldTimer where
  | idle
  | running (limit : Nat)
  deriving DecidableEq, Repr

/-- The 24 summary counters of a DESCRIPTION track, in the order of R170, and the four lane flags of R160. -/
structure ClipCounters where
  captured : Nat
  accepted : Nat
  droppedMalformed : Nat
  droppedLate : Nat
  droppedPool : Nat
  droppedDraining : Nat
  collisions : Nat
  timecodeAdjusted : Nat
  shifted : Nat
  leadClipped : Nat
  cascadeShifts : Nat
  retired : Nat
  skipped : Nat
  partialWrites : Nat
  resolvedFixed : Nat
  resolvedDeep : Nat
  resolvedShallow : Nat
  resolvedFull : Nat
  floorClamps : Nat
  unmetered : Nat
  underruns : Nat
  gapFrames : Nat
  revisits : Nat
  saturated : Nat
  revisitFlag : Bool
  partialFlag : Bool
  sampleErrorFlag : Bool
  parityFlag : Bool
  deriving DecidableEq, Repr

/-- A taken DESCRIPTION track: its settings, its lane and what the lane holds for it (R35, R128, R143). The clip
schedule is held as the track's clip pool entries (R122). -/
structure ClipTrack where
  settings : ClipSettings
  lane : LaneNo
  degradedMark : Option Bool
  cursor : Nat
  stagingBase : Nat
  staged : List StagedSample
  reads : List SampleRead
  request : Option SampleRequest
  held : Option HeldMapping
  timer : HoldTimer
  underruns : Nat
  meter : Meter
  counters : ClipCounters
  deriving DecidableEq, Repr

/-! ## The track table (spec 03) -/

/-- What a slot holds from the taking of its descriptor (R35): its kind, and with it its settings, counters and the
per-track state of its blocks. -/
inductive TrackBody where
  | absent
  | text (x : TextTrack)
  | description (x : ClipTrack)
  deriving DecidableEq, Repr

/-- A track context (R35). `fetch` is present while the descriptor read is requested and not yet granted, and holds
the arrival number that the next upstream burst had at the request (R13). -/
structure TrackContext where
  state : TrackState
  opening : Option Directive
  descriptorAddr : Option Addr
  fetch : Option Nat
  faultCause : Option TrackFault
  body : TrackBody
  parityOk : Bool
  deriving DecidableEq, Repr

/-! ## Reports (spec 10) -/

/-- The reasons of CUE DROPPED and CLIP DROPPED (R90, R127). -/
inductive DropReason where
  | malformed
  | late
  | noRoom
  | pool
  | draining
  deriving DecidableEq, Repr

/-- The drop details (spec 12 section 12.3). -/
inductive DropDetail where
  | none
  | kind
  | length
  | lines
  | anchor
  | timecode
  | order
  | beforeOrigin
  | duration
  | address
  | level
  | mode
  | gain
  | range
  | collision
  deriving DecidableEq, Repr

/-- The start and end that a CUE DROPPED carries, and whether they are absolute frame counts (R90). -/
structure DropTimes where
  start : Nat
  stop : Nat
  isAbsolute : Bool
  deriving DecidableEq, Repr

/-- held(t), reserve(t) and the free count (R90, R127). -/
structure PoolFigures where
  held : Nat
  reserve : Nat
  freeCount : Nat
  deriving DecidableEq, Repr

/-- What a CUE DROPPED carries (R90). -/
structure CueDrop where
  reason : DropReason
  detail : DropDetail
  intakeSlot : Nat
  hostId : BitVec 32
  times : Option DropTimes
  flags : CueFlags
  openStart : Option Nat
  heightAnchor : Option (Nat × Nat)
  pool : Option PoolFigures
  deriving DecidableEq, Repr

/-- What a CLIP DROPPED carries (R127). -/
structure ClipDrop where
  reason : DropReason
  detail : DropDetail
  intakeSlot : Nat
  hostId : BitVec 32
  times : Option (Nat × Nat)
  cursor : Option Nat
  blocker : Option (BitVec 32 × Nat)
  pool : Option PoolFigures
  deriving DecidableEq, Repr

/-- The causes of TRACK RESUMED (R51, R52). -/
inductive ResumeCause where
  | auto
  | resume
  deriving DecidableEq, Repr

/-- The fault causes of the integrity monitor (R172). -/
inductive ParityCause where
  | window
  | track
  | cue
  | clip
  | queue
  deriving DecidableEq, Repr

/-- What a BYPASS ENTERED carries (R175). -/
structure BypassNotice where
  reason : ParityCause
  isRepeat : Bool
  faultCause : Option ParityCause
  entry : Nat
  left : List TrackState
  discarded : Nat
  repeatCount : Nat
  deriving DecidableEq, Repr

/-- A posted report (R168), one constructor for each kind, with what it carries. A MEMORY ERROR without a lane is one
of requester RECORD. -/
inductive Report where
  | directiveRefused (slot : Option Slot) (reason : RefusalReason) (directive : Directive) (partialWrites : Nat)
  | trackOpened (slot : Slot) (capture : BitVec 16) (place : Nat) (kind : TrackKind) (lane : Option LaneNo)
      (clamps : BitVec 32)
  | trackStalled (slot : Slot) (segment : Nat) (policy : StallPolicy) (written : Nat)
  | trackResumed (slot : Slot) (cause : ResumeCause) (segment : Nat)
  | cueDropped (slot : Slot) (drop : CueDrop)
  | clipDropped (slot : Slot) (drop : ClipDrop)
  | fencedWrite (slot : Option Slot) (kind : WindowKind) (addr : Addr) (beats : Nat) (firstHeld : Option Nat)
  | laneDegraded (slot : Slot) (lane : LaneNo) (cursor : Nat) (underruns : Nat) (stagingLead : Nat)
  | laneRecovered (slot : Slot) (lane : LaneNo) (cursor : Nat) (stagingLead : Nat)
  | trackFaulted (slot : Slot) (cause : TrackFault) (left : TrackState)
  | memoryError (slot : Slot) (lane : Option LaneNo) (addr : Addr) (beats : Nat)
  | trackSummary (slot : Slot) (kind : TrackKind) (laneFlags : List Bool) (words : List Nat)
  | bypassEntered (notice : BypassNotice)
  deriving DecidableEq, Repr

/-- The states of a report slot (R162). -/
inductive ReportSlot where
  | empty
  | writing
  | written
  | consumed
  deriving DecidableEq, Repr

/-- The report ring as set (R162): its setting, w, r and the slot states. -/
structure ReportRing where
  base : Addr
  size : Nat
  written : Nat
  read : Nat
  slots : List ReportSlot
  deriving DecidableEq, Repr

/-- Where the report in writing stands (R164): a burst presented and not yet granted, or granted with this identifier. -/
inductive ReportStage where
  | bodyPresented
  | bodyGranted (tag : Nat)
  | trailerPresented
  | trailerGranted (tag : Nat)
  deriving DecidableEq, Repr

/-- The report in writing (R162, R164), with its slot and the lost-report count copied into its header. -/
structure ReportInWriting where
  report : Report
  slot : Nat
  carried : Nat
  stage : ReportStage
  deriving DecidableEq, Repr

/-- The report writer's state (R162). -/
structure ReportWriter where
  ring : Option ReportRing
  queue : List Report
  writing : Option ReportInWriting
  lost : Nat
  deriving DecidableEq, Repr

/-- The integrity monitor's state (R172). -/
structure Monitor where
  faultCause : Option ParityCause
  repeatCount : Nat
  deriving DecidableEq, Repr

/-! ## The device -/

/-- Everything the spec gives the part, and the model's own bookkeeping: `ports` (what the two ports show in the
latest command), `nextTag` (the identifier of the next burst granted) and `nextArrival` (the number of the next
upstream burst). `resetN` and `attn` are the levels of the pins RESET_N and ATTN. -/
structure Device where
  resetN : Bool
  attn : Bool
  strapLatch : BitVec 16
  windows : Vector (Option WindowEntry) 34
  writeQueue : List QueuedWrite
  readList : List QueuedRead
  presented : Option Presented
  arbiter : Arbiter
  outstanding : List Outstanding
  engine : Engine
  tracks : Vector TrackContext 16
  cuePool : Vector (Option CueEntry) 256
  clipPool : Vector (Option ClipEntry) 64
  reports : ReportWriter
  monitor : Monitor
  nextArrival : Nat
  nextTag : Nat
  ports : List PortEvent
  deriving DecidableEq, Repr

/-- The state of the model: the device and the queue of the commands that wait, first in, first out. -/
structure State where
  pending : List Instr
  dev : Device
  deriving DecidableEq, Repr

/-- No command stops the part: the spec describes no event after which it does nothing more, and what it calls a
fault (FAULTED, BYPASS) is a state it goes on from. The type has no constructor, so a `fault` outcome is impossible
(safe: nothing is cut short). -/
inductive Fault where
  deriving DecidableEq, Repr

/-- The reasons for which the model gives a command no meaning. -/
inductive Refusal where
  /-- Raised by an arm of `exec` whose command has no meaning yet. No arm of this model raises it. Safe. -/
  | notModelled (mnemonic : String)
  /-- Raised by UPSTREAM_WRITE and UPSTREAM_READ for an operand that is no burst of the bus of spec 00 section 2.7
  (0 or more than 16 beats, an address off a beat, a crossing of a 4 KiB boundary): the port cannot carry it and the
  spec gives it no effect. Safe. -/
  | notABurst
  deriving DecidableEq, Repr

/-! ## Reset (R171) -/

/-- A FREE track context with fresh parity (R35). -/
def TrackContext.freeContext : TrackContext where
  state := .free
  opening := none
  descriptorAddr := none
  fetch := none
  faultCause := none
  body := .absent
  parityOk := true

/-- The control window that a strap value places (R20): 4 KiB at the value times 16 MiB. -/
def controlWindow (straps : BitVec 16) : Window where
  base := BitVec.ofNat 40 (straps.toNat * 16777216)
  size := 4096
  kind := .control
  slot := none

/-- The device while RESET_N is low (R171): every block's state dropped, no window live, ATTN low. The identifier
counter goes on, so that a late response to a burst from before the reset matches nothing (R19). -/
def Device.held (tag : Nat) : Device where
  resetN := false
  attn := false
  strapLatch := 0
  windows := Vector.replicate 34 none
  writeQueue := []
  readList := []
  presented := none
  arbiter := ⟨0, 0, 0, 0⟩
  outstanding := []
  engine := ⟨[], none, .normal, 0, 0⟩
  tracks := Vector.replicate 16 TrackContext.freeContext
  cuePool := Vector.replicate 256 none
  clipPool := Vector.replicate 64 none
  reports := ⟨none, [], none, 0⟩
  monitor := ⟨none, 0⟩
  nextArrival := 0
  nextTag := tag
  ports := []

/-- The device after the release of RESET_N with these straps (R171, R19, R21, R35, R79, R120, R162, R172). -/
def Device.released (straps : BitVec 16) (tag : Nat) : Device :=
  { Device.held tag with
    resetN := true
    strapLatch := straps
    windows := (Vector.replicate 34 none).set 0 (some ⟨controlWindow straps, true⟩) }

/-- The machine right after reset: RESET_N released, the straps at 0 (a DESIGN CHOICE, log entry 1), no command
waiting. -/
def State.reset : State where
  pending := []
  dev := Device.released 0 0

end Sys2Proof.Machine
end

