-- ==== Sys2Proof/Machine/Operands.lean ====
section
/-! DEFINITION. The operand forms of the commands: the bytes that a burst or a response carries, and the fields of the
four records that software writes (spec 12 sections 12.1 and 12.2). -/

namespace Sys2Proof.Machine

open Sys2Proof

/-! ## Bytes (R179) -/

/-- The 8 bytes of a beat, lowest address first: byte i is bits 8i+7..8i (little-endian, R179; log entry 4). -/
def wordBytes (w : Word) : List Byte :=
  (List.range 8).map fun i => w.extractLsb' (8 * i) 8

/-- The bytes that the beats of a write burst carry, lowest address first. -/
def beatsBytes (beats : List Beat) : List Byte :=
  beats.flatMap fun b => wordBytes b.data

/-- The bytes of read data, lowest address first. -/
def dataBytes (data : List Word) : List Byte :=
  data.flatMap wordBytes

/-- The unsigned number that these bytes hold, little-endian (R179). -/
def leNat : List Byte → Nat
  | [] => 0
  | b :: bs => b.toNat + 256 * leNat bs

/-- The `len` bytes that hold the low-order part of a number, little-endian (R179, R180). -/
def leBytes : Nat → Nat → List Byte
  | 0, _ => []
  | n + 1, v => BitVec.ofNat 8 v :: leBytes n (v / 256)

/-- A run of zero bytes (R179). -/
def zeros (n : Nat) : List Byte :=
  List.replicate n 0

/-- The field of `len` bytes at byte `off` of a record (R179). -/
def field (bs : List Byte) (off len : Nat) : Nat :=
  leNat ((bs.drop off).take len)

/-- An address field: the low 5 of its 8 bytes (R179). -/
def addrField (bs : List Byte) (off : Nat) : Addr :=
  BitVec.ofNat 40 (field bs off 5)

/-- The 8 bytes from this offset as one word, lowest byte least significant. -/
def wordAt (bs : List Byte) (off : Nat) : Word :=
  BitVec.ofNat 64 (field bs off 8)

/-- The beats of a write burst that carries these bytes with every strobe set, 8 bytes a beat. -/
def fullBeats : Nat → List Byte → List Beat
  | 0, _ => []
  | n + 1, bs => ⟨wordAt bs 0, 255⟩ :: fullBeats n (bs.drop 8)

/-- Whether every strobe of every beat is set. -/
def allStrobes (beats : List Beat) : Bool :=
  beats.all fun b => b.strobes == 255

/-- A whole-record write (spec 00 section 2.9): one burst of `beats` beats on a multiple of the record's size, every
strobe set. -/
def wholeRecord (size : Nat) (base addr : Addr) (beats : List Beat) : Bool :=
  decide (8 * beats.length = size) && decide ((addr.toNat - base.toNat) % size = 0) && allStrobes beats

/-- Whether two byte ranges share a byte. -/
def rangesOverlap (a m b n : Nat) : Bool :=
  decide (a < b + n) && decide (b < a + m)

/-! ## Timecodes (R179) -/

/-- A timecode's four fields, each a plain binary value (R179). -/
structure Timecode where
  hh : Nat
  mm : Nat
  ss : Nat
  ff : Nat
  deriving DecidableEq, Repr

/-- A timecode field of a record: ff, ss, mm and hh, one byte each (R179). -/
def timecodeField (bs : List Byte) (off : Nat) : Timecode where
  hh := field bs (off + 3) 1
  mm := field bs (off + 2) 1
  ss := field bs (off + 1) 1
  ff := field bs off 1

/-! ## The directive record (spec 12 section 12.2) -/

/-- The directive that a whole-record control window write carries (R22, R26). -/
def parseDirective (bs : List Byte) (place : Nat) (capture : BitVec 16) : Directive where
  kind := BitVec.ofNat 8 (field bs 0 1)
  slotField := BitVec.ofNat 8 (field bs 1 1)
  operand1 := wordAt bs 8
  operand2 := wordAt bs 16
  operand3 := wordAt bs 24
  place := place
  capture := capture

/-- The eight directives, and a kind field that names none (R26, R27). -/
inductive DirectiveKind where
  | openTrack
  | closeTrack
  | flushTrack
  | abortTrack
  | retuneTrack
  | resumeTrack
  | setReportRing
  | clearBypass
  | unknown
  deriving DecidableEq, Repr

/-- The directive that a kind field names (spec 12 section 12.2). -/
def directiveKind (k : Byte) : DirectiveKind :=
  if k = 0x01 then .openTrack
  else if k = 0x02 then .closeTrack
  else if k = 0x03 then .flushTrack
  else if k = 0x04 then .abortTrack
  else if k = 0x05 then .retuneTrack
  else if k = 0x06 then .resumeTrack
  else if k = 0x10 then .setReportRing
  else if k = 0x11 then .clearBypass
  else .unknown

/-- Whether a directive is one of the six track directives (R27, R29). -/
def DirectiveKind.isTrack : DirectiveKind → Bool
  | .openTrack => true
  | .closeTrack => true
  | .flushTrack => true
  | .abortTrack => true
  | .retuneTrack => true
  | .resumeTrack => true
  | .setReportRing => false
  | .clearBypass => false
  | .unknown => false

/-- Whether a directive is one that BYPASS keeps and carries out (R27, R34). -/
def DirectiveKind.inBypass : DirectiveKind → Bool
  | .openTrack => false
  | .closeTrack => false
  | .flushTrack => false
  | .abortTrack => false
  | .retuneTrack => false
  | .resumeTrack => false
  | .setReportRing => true
  | .clearBypass => true
  | .unknown => false

/-- The track slot that a slot field of 0..15 names (R27). -/
def slotOfField (b : Byte) : Option Slot :=
  if h : b.toNat < 16 then some ⟨b.toNat, h⟩ else none

/-- The track slot that the header of a refusal names: the slot field of a track directive, when it holds 0..15
(R28). -/
def Directive.headerSlot (x : Directive) : Option Slot :=
  if (directiveKind x.kind).isTrack then slotOfField x.slotField else none

/-- Operand 1 as an address, its low 40 bits (R179). -/
def Directive.address1 (x : Directive) : Addr :=
  x.operand1.truncate 40

/-- The timecode operand of FLUSH TRACK: bytes 8..11 of the record (spec 12 section 12.2). -/
def Directive.flushTimecode (x : Directive) : Timecode where
  hh := (x.operand1.extractLsb' 24 8).toNat
  mm := (x.operand1.extractLsb' 16 8).toNat
  ss := (x.operand1.extractLsb' 8 8).toNat
  ff := (x.operand1.extractLsb' 0 8).toNat

/-- The ring size of SET REPORT RING in KiB: bytes 16..17 of the record. -/
def Directive.sizeKiB (x : Directive) : Nat :=
  (x.operand2.extractLsb' 0 16).toNat

/-- The stall policy of a code; a code that names none is AUTO (R40). -/
def stallPolicyOf (code : Nat) : StallPolicy :=
  if code = 1 then .lock else .auto

/-- The late policy of a code; a code that names none is SHIFT (R40). -/
def latePolicyOf (code : Nat) : LatePolicy :=
  if code = 1 then .drop else .shift

/-- The operands of RETUNE TRACK after the clamps of R49. -/
def Directive.retuneTuning (x : Directive) : Tuning where
  segmentLength := (x.operand1.extractLsb' 0 16).toNat
  reorder := min 600 (x.operand2.extractLsb' 0 16).toNat
  stall := stallPolicyOf (x.operand3.extractLsb' 0 8).toNat
  late := latePolicyOf (x.operand3.extractLsb' 8 8).toNat

/-! ## The track descriptor (spec 12 section 12.2, R40) -/

/-- The kind that a descriptor's kind field names (R39). -/
def descriptorKind (bs : List Byte) : Option TrackKind :=
  if field bs 0 1 = 1 then some .text
  else if field bs 0 1 = 2 then some .description
  else none

/-- A descriptor's rate code. -/
def descriptorRate (bs : List Byte) : Nat := field bs 1 1

/-- A descriptor's drop-frame flag: bit 0 of its flags. -/
def descriptorDropFrame (bs : List Byte) : Bool := decide (field bs 2 1 % 2 = 1)

/-- A descriptor's origin timecode. -/
def descriptorOrigin (bs : List Byte) : Timecode := timecodeField bs 4

/-- A descriptor's intake ring base. -/
def descriptorIntakeBase (bs : List Byte) : Addr := addrField bs 8

/-- A descriptor's intake ring size, in bytes. -/
def descriptorIntakeSize (bs : List Byte) : Nat := field bs 16 4

/-- A descriptor's output ring size, in bytes. -/
def descriptorOutputSize (bs : List Byte) : Nat := field bs 20 4

/-- A descriptor's output ring base. -/
def descriptorOutputBase (bs : List Byte) : Addr := addrField bs 24

/-- A descriptor's pool reserve. -/
def descriptorReserve (bs : List Byte) : Nat := field bs 32 2

/-- A TEXT descriptor's segment length. -/
def descriptorSegmentLength (bs : List Byte) : Nat := field bs 48 2

/-- The value that R40 stores for a column limit. -/
def clampColumns (v : Nat) : Nat :=
  if v = 0 then 42 else if v < 20 then 20 else min 48 v

/-- The value that R40 stores for a full target. -/
def clampFullTarget (v : Nat) : Nat :=
  if v = 0 then 1 else min 32767 v

/-- The value that R40 stores for a hold limit. -/
def clampHoldLimit (v : Nat) : Nat :=
  if v < 10 then 10 else min 1000 v

/-- The default duck mode that R40 stores for a code: code 1 and every code that names no mode give FIXED. -/
def defaultModeOf (code : Nat) : DuckMode :=
  if code = 2 then .autoFast else if code = 3 then .autoFull else .fixed

/-- The trim: the low 4 bits in two's complement, −8..+7 (spec 12 section 12.2). -/
def trimOf (code : Nat) : Int :=
  if code % 16 < 8 then (code % 16 : Nat) else ((code % 16 : Nat) : Int) - 16

/-- The tuning settings of a TEXT descriptor, clamped (R40). -/
def descriptorTuning (bs : List Byte) : Tuning where
  segmentLength := descriptorSegmentLength bs
  reorder := min 600 (field bs 50 2)
  stall := stallPolicyOf (field bs 56 1)
  late := latePolicyOf (field bs 57 1)

/-- The fixed settings of a TEXT descriptor, clamped (R40). -/
def descriptorText (bs : List Byte) (rate : RateSettings) : TextSettings where
  rate := rate
  intakeBase := descriptorIntakeBase bs
  intakeSize := descriptorIntakeSize bs
  indexBase := descriptorOutputBase bs
  indexSize := descriptorOutputSize bs
  reserve := descriptorReserve bs
  minGap := min 15 (field bs 52 1)
  minDuration := min 120 (field bs 53 1)
  cps := min 60 (field bs 54 1)
  columns := clampColumns (field bs 55 1)

/-- The settings of a DESCRIPTION descriptor, clamped (R40). -/
def descriptorClips (bs : List Byte) (rate : RateSettings) : ClipSettings where
  rate := rate
  intakeBase := descriptorIntakeBase bs
  intakeSize := descriptorIntakeSize bs
  mixBase := descriptorOutputBase bs
  mixSize := descriptorOutputSize bs
  reserve := descriptorReserve bs
  lead := min 2000 (field bs 48 2)
  tail := min 4000 (field bs 50 2)
  defaultGain := min Config.unity (field bs 52 2)
  defaultLevel := min Config.unity (field bs 54 2)
  defaultMode := defaultModeOf (field bs 56 1)
  trim := trimOf (field bs 57 1)
  fastThreshold := min 32767 (field bs 58 2)
  fastBand := min 8191 (field bs 60 2)
  deepPreset := min Config.unity (field bs 62 2)
  shallowPreset := min Config.unity (field bs 64 2)
  fullTarget := clampFullTarget (field bs 66 2)
  gainFloor := min Config.unity (field bs 68 2)
  holdLimit := clampHoldLimit (field bs 70 2)

/-! ## The cue record (spec 12 section 12.2) -/

/-- The fields of a captured cue record (R71, R74). `text` is the text area cut to the text length. -/
structure CueRecord where
  kind : Nat
  anchor : Nat
  anchorRow : Nat
  doubleHeight : BitVec 8
  style : BitVec 4
  textLength : Nat
  hostId : BitVec 32
  start : Timecode
  stop : Timecode
  text : List Byte
  deriving DecidableEq, Repr

/-- The cue record that 128 captured bytes hold. -/
def parseCue (bs : List Byte) : CueRecord where
  kind := field bs 0 1
  anchor := field bs 1 1
  anchorRow := field bs 2 1
  doubleHeight := BitVec.ofNat 8 (field bs 3 1)
  style := BitVec.ofNat 4 (field bs 4 1)
  textLength := field bs 5 1
  hostId := BitVec.ofNat 32 (field bs 8 4)
  start := timecodeField bs 12
  stop := timecodeField bs 16
  text := (bs.drop 32).take (min 96 (field bs 5 1))

/-! ## The clip record (spec 12 section 12.2) -/

/-- The fields of a captured clip record (R117). -/
structure ClipRecord where
  kind : Nat
  mode : Nat
  hostId : BitVec 32
  start : Timecode
  duration : Nat
  address : Addr
  level : Nat
  fixedGain : Nat
  deriving DecidableEq, Repr

/-- The clip record that 128 captured bytes hold. -/
def parseClip (bs : List Byte) : ClipRecord where
  kind := field bs 0 1
  mode := field bs 1 1
  hostId := BitVec.ofNat 32 (field bs 4 4)
  start := timecodeField bs 8
  duration := field bs 12 4
  address := addrField bs 16
  level := field bs 24 2
  fixedGain := field bs 26 2

/-- The duck mode of a code, if it names one (spec 12 section 12.2). -/
def duckModeOf (code : Nat) : Option DuckMode :=
  if code = 0 then some .fixed
  else if code = 1 then some .trackDefault
  else if code = 2 then some .autoFast
  else if code = 3 then some .autoFull
  else none

end Sys2Proof.Machine
end

