-- ==== Sys2Proof/Machine/Flags.lean ====
section
/-! DEFINITION. The codes and flags of the records that the part writes (spec 12 section 12.3), and the saturating counts. -/

namespace Sys2Proof.Machine

open Sys2Proof

/-! ## Counts -/

/-- A 16-bit count after a rise: it stays at 65535 (spec 00 section 2.1, R24, R91, R113, R127, R142, R160, R163). -/
def satAdd (count rise : Nat) : Nat :=
  min Config.countLimit (count + rise)

/-- A count that rises by 1 when a condition holds. -/
def countIf (b : Bool) (count : Nat) : Nat :=
  if b then satAdd count 1 else count

/-! ## Flag bytes -/

/-- A bit of a flag byte. -/
def flagBit (b : Bool) (i : Nat) : Nat :=
  if b then 2 ^ i else 0

/-- No cue flag set. -/
def CueFlags.noFlags : CueFlags :=
  ⟨false, false, false, false, false, false⟩

/-- The cue flags in the fragment flag positions, bits 2..7 (spec 12 section 12.3). -/
def CueFlags.byte (f : CueFlags) : Nat :=
  flagBit f.lateShifted 2 + flagBit f.moved 3 + flagBit f.gapClosed 4 + flagBit f.extended 5 +
    flagBit f.overrate 6 + flagBit f.overwidth 7

/-- A fragment's flag byte: CONT_IN and CONT_OUT in bits 0 and 1 beside the cue's flags (spec 12 section 12.3). -/
def Fragment.flagByte (f : Fragment) : Nat :=
  flagBit f.contIn 0 + flagBit f.contOut 1 + f.flags.byte

/-- A segment record's flag byte: OVERFLOW in bit 0, FINAL in bit 1 (spec 12 section 12.3). -/
def SegmentRecord.flagByte (r : SegmentRecord) : Nat :=
  flagBit r.overflow 0 + flagBit r.final 1

/-- The lane flags of R160 in the order REVISIT, PARTIAL, SAMPLE ERROR, PARITY (R170). -/
def ClipCounters.laneFlags (c : ClipCounters) : List Bool :=
  [c.revisitFlag, c.partialFlag, c.sampleErrorFlag, c.parityFlag]

/-- Flags as bits from bit `i` upward. -/
def flagBitsFrom : Nat → List Bool → Nat
  | _, [] => 0
  | i, b :: bs => flagBit b i + flagBitsFrom (i + 1) bs

/-- The clamp flags of a TEXT descriptor, bits 0..6 (R40, spec 12 section 12.3). -/
def textClamps (bs : List Byte) : List Bool :=
  [ decide (600 < field bs 50 2),
    decide (15 < field bs 52 1),
    decide (120 < field bs 53 1),
    decide (60 < field bs 54 1),
    decide (field bs 55 1 < 20) || decide (48 < field bs 55 1),
    decide (1 < field bs 56 1),
    decide (1 < field bs 57 1) ]

/-- The clamp flags of a DESCRIPTION descriptor, bits 8..19 (R40, spec 12 section 12.3). -/
def descriptionClamps (bs : List Byte) : List Bool :=
  [ decide (2000 < field bs 48 2),
    decide (4000 < field bs 50 2),
    decide (Config.unity < field bs 52 2),
    decide (Config.unity < field bs 54 2),
    decide (Config.unity < field bs 62 2),
    decide (Config.unity < field bs 64 2),
    decide (Config.unity < field bs 68 2),
    decide (field bs 56 1 = 1) || decide (3 < field bs 56 1),
    decide (32767 < field bs 58 2),
    decide (8191 < field bs 60 2),
    decide (field bs 66 2 = 0) || decide (32767 < field bs 66 2),
    decide (field bs 70 2 < 10) || decide (1000 < field bs 70 2) ]

/-- The clamp flags word of TRACK OPENED, with ORIGIN ADJUSTED in bit 31 (R58, spec 12 section 12.3). -/
def clampWord (kind : TrackKind) (bs : List Byte) (originAdjusted : Bool) : BitVec 32 :=
  BitVec.ofNat 32 <|
    flagBit originAdjusted 31 +
      match kind with
      | .text => flagBitsFrom 0 (textClamps bs)
      | .description => flagBitsFrom 8 (descriptionClamps bs)

/-! ## Codes of a report (spec 12 section 12.3) -/

/-- The window kind codes. -/
def WindowKind.code : WindowKind → Nat
  | .control => 1
  | .report => 2
  | .textIntake => 3
  | .index => 4
  | .clipIntake => 5
  | .mix => 6

/-- The track state codes. -/
def TrackState.code : TrackState → Nat
  | .free => 0
  | .loading => 1
  | .running => 2
  | .stalled => 3
  | .degraded => 4
  | .draining => 5
  | .faulted => 6

/-- The refusal reason codes. -/
def RefusalReason.code : RefusalReason → Nat
  | .queueFull => 1
  | .unknown => 2
  | .bypass => 3
  | .badSlot => 4
  | .ring => 5
  | .overlap => 6
  | .notBypass => 7
  | .notOpen => 8
  | .busy => 9
  | .address => 10
  | .memoryError => 11
  | .badKind => 12
  | .rate => 13
  | .dropFrame => 14
  | .origin => 15
  | .segment => 16
  | .reserve => 17
  | .noLane => 18
  | .wrongKind => 19
  | .state => 20
  | .timecode => 21
  | .full => 22

/-- The drop reason codes. -/
def DropReason.code : DropReason → Nat
  | .malformed => 1
  | .late => 2
  | .noRoom => 3
  | .pool => 4
  | .draining => 5

/-- The drop detail codes. -/
def DropDetail.code : DropDetail → Nat
  | .none => 0
  | .kind => 1
  | .length => 2
  | .lines => 3
  | .anchor => 4
  | .timecode => 5
  | .order => 6
  | .beforeOrigin => 7
  | .duration => 8
  | .address => 9
  | .level => 10
  | .mode => 11
  | .gain => 12
  | .range => 13
  | .collision => 14

/-- The TRACK RESUMED reason codes. -/
def ResumeCause.code : ResumeCause → Nat
  | .auto => 1
  | .resume => 2

/-- The TRACK FAULTED reason codes. -/
def TrackFault.code : TrackFault → Nat
  | .recordError => 1
  | .underrun => 2

/-- The parity cause codes. -/
def ParityCause.code : ParityCause → Nat
  | .window => 1
  | .track => 2
  | .cue => 3
  | .clip => 4
  | .queue => 5

/-- The stall policy codes. -/
def StallPolicy.code : StallPolicy → Nat
  | .auto => 0
  | .lock => 1

/-- The track kind codes of TRACK OPENED, those of the descriptor's kind field. -/
def TrackKind.code : TrackKind → Nat
  | .text => 1
  | .description => 2

/-- A lane field, 0xFF where the lane is absent (R180). -/
def laneCode : Option LaneNo → Nat
  | none => 255
  | some l => l.val

/-- The header's track slot, 0xFF for none (spec 12 section 12.3). -/
def slotCode : Option Slot → Nat
  | none => 255
  | some t => t.val

end Sys2Proof.Machine
end

