-- ==== Sys2Proof/Machine/Formats.lean ====
section
/-! DEFINITION. The bytes of the two records that the part writes: the segment record and the report record
(spec 12 sections 12.3 and 12.4). -/

namespace Sys2Proof.Machine

open Sys2Proof

/-! ## The segment record -/

/-- The completion mark of a segment record (R181). -/
def segmentMark : Nat := 0x5A17C3E9

/-- The 16 bytes of a fragment entry (spec 12 section 12.3). -/
def Fragment.bytes (f : Fragment) : List Byte :=
  leBytes 2 f.intakeSlot ++ leBytes 4 f.hostId.toNat ++ leBytes 3 f.startOffset ++ leBytes 3 f.endOffset ++
    leBytes 1 (f.row % 16 + 16 * f.height) ++ leBytes 1 f.style.toNat ++ leBytes 1 f.flagByte ++ zeros 1

/-- The 32 header bytes of a segment record (R102, spec 12 section 12.3). -/
def SegmentRecord.header (r : SegmentRecord) : List Byte :=
  leBytes 1 r.slot.val ++ leBytes 1 r.flagByte ++ leBytes 1 r.fragments.length ++ zeros 1 ++
    leBytes 2 r.omitted ++ zeros 2 ++ leBytes 4 r.segment ++ leBytes 4 r.startTick ++ leBytes 4 r.lengthTicks ++
    zeros 12

/-- The 8 trailer bytes of a segment record (R181). -/
def SegmentRecord.trailer (r : SegmentRecord) : List Byte :=
  leBytes 4 r.segment ++ leBytes 4 segmentMark

/-- The fragment area of a segment record: 60 entries and the zero bytes up to the trailer. -/
def SegmentRecord.fragmentArea (r : SegmentRecord) : List Byte :=
  ((r.fragments.flatMap Fragment.bytes) ++ zeros 984).take 984

/-- The 1024 bytes of a segment record (spec 12 section 12.3). -/
def SegmentRecord.bytes (r : SegmentRecord) : List Byte :=
  r.header ++ r.fragmentArea ++ r.trailer

/-- The offset in its slot and the beats of burst i of a record's nine: seven body bursts of 128 bytes, one of 120, and
the trailer (R103). -/
def recordBurstPlace (i : Nat) : Nat × Nat :=
  if i < 7 then (128 * i, 16) else if i = 7 then (896, 15) else (1016, 1)

/-- The data of burst i of a segment record, every strobe set (R103). -/
def SegmentRecord.burst (r : SegmentRecord) (i : Nat) : List Beat :=
  fullBeats (recordBurstPlace i).2 (r.bytes.drop (recordBurstPlace i).1)

/-! ## The report record -/

/-- The completion mark of a report's pass (R181): the pass of report number n is floor(n / Cr) (R162). -/
def reportMark (n slotCount : Nat) : Nat :=
  if n / slotCount % 2 = 0 then 0x3C96E1A5 else 0xC3691E5A

/-- The kind codes of byte 0. -/
def Report.kindCode : Report → Nat
  | .directiveRefused .. => 1
  | .trackOpened .. => 2
  | .trackStalled .. => 3
  | .trackResumed .. => 4
  | .cueDropped .. => 5
  | .clipDropped .. => 6
  | .fencedWrite .. => 7
  | .laneDegraded .. => 8
  | .laneRecovered .. => 9
  | .trackFaulted .. => 10
  | .memoryError .. => 11
  | .trackSummary .. => 12
  | .bypassEntered .. => 13

/-- The track slot of a report's header (R168). -/
def Report.slot : Report → Option Slot
  | .directiveRefused t _ _ _ => t
  | .trackOpened t _ _ _ _ _ => some t
  | .trackStalled t _ _ _ => some t
  | .trackResumed t _ _ => some t
  | .cueDropped t _ => some t
  | .clipDropped t _ => some t
  | .fencedWrite t _ _ _ _ => t
  | .laneDegraded t _ _ _ _ => some t
  | .laneRecovered t _ _ _ => some t
  | .trackFaulted t _ _ => some t
  | .memoryError t _ _ _ => some t
  | .trackSummary t _ _ _ => some t
  | .bypassEntered _ => none

/-- The reason code of byte 2, 0 where the kind has none (R168, spec 12 section 12.3). -/
def Report.reasonCode : Report → Nat
  | .directiveRefused _ r _ _ => r.code
  | .trackOpened .. => 0
  | .trackStalled .. => 0
  | .trackResumed _ c _ => c.code
  | .cueDropped _ d => d.reason.code
  | .clipDropped _ d => d.reason.code
  | .fencedWrite .. => 0
  | .laneDegraded .. => 0
  | .laneRecovered .. => 0
  | .trackFaulted _ c _ => c.code
  | .memoryError _ l _ _ => if l.isSome then 1 else 2
  | .trackSummary _ k flags _ => flagBit (decide (k = .description)) 0 + flagBitsFrom 4 flags
  | .bypassEntered n => n.reason.code

/-- The presence flags of byte 3 (spec 12 section 12.3). -/
def Report.presence : Report → Nat
  | .directiveRefused .. => 0
  | .trackOpened .. => 0
  | .trackStalled .. => 0
  | .trackResumed .. => 0
  | .cueDropped _ d =>
    match d.times with
    | none => 0
    | some x => 1 + flagBit x.isAbsolute 1
  | .clipDropped _ d => flagBit d.times.isSome 0
  | .fencedWrite _ _ _ _ h => flagBit h.isSome 0
  | .laneDegraded .. => 0
  | .laneRecovered .. => 0
  | .trackFaulted .. => 0
  | .memoryError .. => 0
  | .trackSummary .. => 0
  | .bypassEntered .. => 0

/-- The pool figures of a CUE DROPPED, zero where absent (R180). -/
def cuePoolBytes : Option PoolFigures → List Byte
  | none => zeros 6
  | some p => leBytes 2 p.held ++ leBytes 2 p.reserve ++ leBytes 2 p.freeCount

/-- The pool figures of a CLIP DROPPED, zero where absent (R180). -/
def clipPoolBytes : Option PoolFigures → List Byte
  | none => zeros 3
  | some p => leBytes 1 p.held ++ leBytes 1 p.reserve ++ leBytes 1 p.freeCount

/-- The start and end of a CUE DROPPED, zero where absent (R90). -/
def dropTimesBytes : Option DropTimes → List Byte
  | none => zeros 8
  | some x => leBytes 4 x.start ++ leBytes 4 x.stop

/-- A pair of numbers in 4 bytes each, zero where absent. -/
def pairBytes : Option (Nat × Nat) → List Byte
  | none => zeros 8
  | some (a, b) => leBytes 4 a ++ leBytes 4 b

/-- A payload filled with zero bytes to its 48 (R168). -/
def payloadOf (bs : List Byte) : List Byte :=
  (bs ++ zeros 48).take 48

/-- The 48 payload bytes of a report, record bytes 8..55 (spec 12 section 12.3). The repeat flag of BYPASS ENTERED, for
which the spec gives no bit, is a byte of 1 when set: the model's choice (log entry 34). -/
def Report.payload : Report → List Byte
  | .directiveRefused _ _ d partials => payloadOf <|
      leBytes 2 d.capture.toNat ++ leBytes 1 d.place ++ [d.kind, d.slotField] ++ zeros 1 ++ leBytes 2 partials ++
        leBytes 8 d.operand1.toNat ++ leBytes 8 d.operand2.toNat ++ leBytes 8 d.operand3.toNat
  | .trackOpened _ capture place kind lane clamps => payloadOf <|
      leBytes 2 capture.toNat ++ leBytes 1 place ++ leBytes 1 kind.code ++ leBytes 1 (laneCode lane) ++ zeros 3 ++
        leBytes 4 clamps.toNat
  | .trackStalled _ segment policy written => payloadOf <|
      leBytes 4 segment ++ leBytes 1 policy.code ++ leBytes 1 written
  | .trackResumed _ _ segment => payloadOf (leBytes 4 segment)
  | .cueDropped _ d => payloadOf <|
      leBytes 2 d.intakeSlot ++ leBytes 1 d.detail.code ++ leBytes 1 d.flags.byte ++ leBytes 4 d.hostId.toNat ++
        dropTimesBytes d.times ++ leBytes 4 (d.openStart.getD 0) ++
        leBytes 1 ((d.heightAnchor.map Prod.fst).getD 0) ++ leBytes 1 ((d.heightAnchor.map Prod.snd).getD 0) ++
        cuePoolBytes d.pool
  | .clipDropped _ d => payloadOf <|
      leBytes 2 d.intakeSlot ++ leBytes 1 d.detail.code ++ zeros 1 ++ leBytes 4 d.hostId.toNat ++
        pairBytes d.times ++ leBytes 4 (d.cursor.getD 0) ++
        leBytes 4 ((d.blocker.map fun x => x.1.toNat).getD 0) ++ leBytes 4 ((d.blocker.map Prod.snd).getD 0) ++
        clipPoolBytes d.pool
  | .fencedWrite _ kind addr beats firstHeld => payloadOf <|
      leBytes 1 kind.code ++ leBytes 1 beats ++ leBytes 2 (firstHeld.getD 0) ++ zeros 4 ++ leBytes 8 addr.toNat
  | .laneDegraded _ lane cursor underruns lead => payloadOf <|
      leBytes 1 lane.val ++ leBytes 1 underruns ++ leBytes 2 lead ++ leBytes 4 cursor
  | .laneRecovered _ lane cursor lead => payloadOf <|
      leBytes 1 lane.val ++ zeros 1 ++ leBytes 2 lead ++ leBytes 4 cursor
  | .trackFaulted _ _ left => payloadOf (leBytes 1 left.code)
  | .memoryError _ lane addr beats => payloadOf <|
      leBytes 1 (laneCode lane) ++ leBytes 1 beats ++ zeros 6 ++ leBytes 8 addr.toNat
  | .trackSummary _ _ _ words => payloadOf (words.flatMap (leBytes 2))
  | .bypassEntered n => payloadOf <|
      leBytes 1 (if n.isRepeat then 1 else 0) ++ leBytes 1 ((n.faultCause.map ParityCause.code).getD 0) ++
        leBytes 1 n.repeatCount ++ leBytes 1 n.discarded ++ leBytes 2 n.entry ++ zeros 2 ++
        n.left.flatMap fun st => leBytes 1 st.code

/-- The 56 body bytes of a report with the lost-report count copied at the start of its write (R164, R168). -/
def Report.body (r : Report) (lost : Nat) : List Byte :=
  leBytes 1 r.kindCode ++ leBytes 1 (slotCode r.slot) ++ leBytes 1 r.reasonCode ++ leBytes 1 r.presence ++
    leBytes 2 lost ++ zeros 2 ++ r.payload

/-- The 8 trailer bytes of a report (R164, spec 12 section 12.3). -/
def reportTrailer (mark : Nat) : List Byte :=
  leBytes 4 mark ++ zeros 4

/-- The counter words of a TEXT track's TRACK SUMMARY (R169). -/
def TextCounters.words (c : TextCounters) : List Nat :=
  [c.captured, c.accepted, c.droppedMalformed, c.droppedLate, c.droppedNoRoom, c.droppedPool, c.droppedDraining,
    c.timecodeAdjusted, c.lateShifted, c.extended, c.moved, c.overrate, c.overwidth, c.gapClosures, c.partialWrites,
    c.recordsWritten, c.emptyRecords, c.overflowRecords, c.fragmentsOmitted, c.stalls, c.earlyReads, c.cuesReleased]

/-- The counter words of a DESCRIPTION track's TRACK SUMMARY (R170). -/
def ClipCounters.words (c : ClipCounters) : List Nat :=
  [c.captured, c.accepted, c.droppedMalformed, c.droppedLate, c.droppedPool, c.droppedDraining, c.collisions,
    c.timecodeAdjusted, c.shifted, c.leadClipped, c.cascadeShifts, c.retired, c.skipped, c.partialWrites,
    c.resolvedFixed, c.resolvedDeep, c.resolvedShallow, c.resolvedFull, c.floorClamps, c.unmetered, c.underruns,
    c.gapFrames, c.revisits, c.saturated]

end Sys2Proof.Machine
end

