-- ==== Sys2Proof/Machine/Timing.lean ====
section
/-! DEFINITION. The timing unit (spec 04): arithmetic without state, shared by the TEXT and DESCRIPTION paths (R55). -/

namespace Sys2Proof.Machine

open Sys2Proof

/-- The four numbers that a rate code fixes (R56): N and D, the nominal rate R and the frames dropped a label minute d. -/
structure Rate where
  num : Nat
  den : Nat
  nominal : Nat
  dropped : Nat
  deriving DecidableEq, Repr

/-- The rate table (R56). R39 has refused a code above 7; the last row also stands for such a code. -/
def rateOf (code : Nat) : Rate :=
  match code with
  | 0 => ⟨24000, 1001, 24, 0⟩
  | 1 => ⟨24, 1, 24, 0⟩
  | 2 => ⟨25, 1, 25, 0⟩
  | 3 => ⟨30000, 1001, 30, 2⟩
  | 4 => ⟨30, 1, 30, 0⟩
  | 5 => ⟨50, 1, 50, 0⟩
  | 6 => ⟨60000, 1001, 60, 4⟩
  | _ => ⟨60, 1, 60, 0⟩

/-- Whether a field of a timecode is out of range (R57). -/
def Timecode.outOfRange (code : Nat) (t : Timecode) : Bool :=
  decide (23 < t.hh) || decide (59 < t.mm) || decide (59 < t.ss) || decide ((rateOf code).nominal ≤ t.ff)

/-- Whether a label in range is a dropped label (R58). -/
def Timecode.isDropped (code : Nat) (dropFrame : Bool) (t : Timecode) : Bool :=
  dropFrame && decide (t.ss = 0) && decide (t.ff < (rateOf code).dropped) && decide (t.mm % 10 ≠ 0)

/-- The label that a dropped label is adjusted to; any other label is left as it is (R58). -/
def Timecode.adjusted (code : Nat) (dropFrame : Bool) (t : Timecode) : Timecode :=
  if t.isDropped code dropFrame then { t with ff := (rateOf code).dropped } else t

/-- The non-drop-frame count of a label (R59). -/
def Timecode.labelCount (code : Nat) (t : Timecode) : Nat :=
  ((t.hh * 60 + t.mm) * 60 + t.ss) * (rateOf code).nominal + t.ff

/-- The absolute frame count of a timecode whose fields are in range, after any adjustment (R59, R60). -/
def Timecode.frames (code : Nat) (dropFrame : Bool) (t : Timecode) : Nat :=
  let a := t.adjusted code dropFrame
  let minutes := a.hh * 60 + a.mm
  if dropFrame then a.labelCount code - (rateOf code).dropped * (minutes - minutes / 10)
  else a.labelCount code

/-- The relative frame count of a timecode of a track (R61). -/
def RateSettings.relative (r : RateSettings) (t : Timecode) : Int :=
  (t.frames r.code r.dropFrame : Int) - (r.origin : Int)

/-- ticks(f) (R62). -/
def ticks (code f : Nat) : Nat :=
  (2 * f * 48000 * (rateOf code).den + (rateOf code).num) / (2 * (rateOf code).num)

/-- Whether a relative frame count lies beyond the timeline limit; the limit applies when it is above 0 (R64). -/
def beyondLimit (code : Nat) (f : Int) : Bool :=
  decide (0 < f) && decide (Config.timelineLimit < ticks code f.toNat)

/-- Whether a byte counts as one character (R68). -/
def isCharacter (b : Byte) : Bool :=
  !(decide (0x80 ≤ b.toNat) && decide (b.toNat ≤ 0xBF)) && b != 0x0A

/-- The characters of a run of bytes (R68). -/
def characters (bs : List Byte) : Nat :=
  (bs.filter isCharacter).length

/-- The lines of a text: the runs between 0x0A bytes (R68). There is always at least one. -/
def textLines : List Byte → List (List Byte)
  | [] => [[]]
  | b :: bs =>
    if b = 0x0A then [] :: textLines bs
    else
      match textLines bs with
      | [] => [[b]]
      | l :: ls => (b :: l) :: ls

/-- The reading-rate test: whether a cue of these characters and frames is OVERRATE (R68). -/
def overRate (code cps chars duration : Nat) : Bool :=
  decide (0 < cps) && decide (cps * duration * (rateOf code).den < chars * (rateOf code).num)

/-- Milliseconds as ticks (R69). -/
def msTicks (ms : Nat) : Nat :=
  ms * 48

end Sys2Proof.Machine
end

