-- ==== Sys2Proof/Machine/Ops.lean ====
section
/-! DEFINITION. The named operations that the commands share: reading and writing the device's tables, posting a report,
the window table's install and remove, the freeing of a track, the entry into BYPASS, and what ends every event. -/

namespace Sys2Proof.Machine

open Sys2Proof

/-! ## Reading and writing the tables -/

/-- The context of a track slot (R35). -/
def Device.track (d : Device) (t : Slot) : TrackContext :=
  d.tracks[t.val]

/-- A write of a track context. -/
def Device.setTrack (d : Device) (t : Slot) (c : TrackContext) : Device :=
  { d with tracks := d.tracks.set t.val c }

/-- The TEXT track that a context holds. -/
def TrackContext.text (c : TrackContext) : Option TextTrack :=
  match c.body with
  | .absent => none
  | .text x => some x
  | .description _ => none

/-- The DESCRIPTION track that a context holds. -/
def TrackContext.clips (c : TrackContext) : Option ClipTrack :=
  match c.body with
  | .absent => none
  | .text _ => none
  | .description x => some x

/-- A write of the TEXT track of a slot, with the rest of its context as it stands. -/
def Device.setText (d : Device) (t : Slot) (x : TextTrack) : Device :=
  d.setTrack t { d.track t with body := .text x }

/-- A write of the DESCRIPTION track of a slot, with the rest of its context as it stands. -/
def Device.setClips (d : Device) (t : Slot) (x : ClipTrack) : Device :=
  d.setTrack t { d.track t with body := .description x }

/-- A write of the state of a slot. -/
def Device.setTrackState (d : Device) (t : Slot) (st : TrackState) : Device :=
  d.setTrack t { d.track t with state := st }

/-- The cue pool entry of a number, if it is in use (R79). -/
def Device.cue (d : Device) (i : Nat) : Option CueEntry :=
  (d.cuePool[i]?).join

/-- The clip pool entry of a number, if it is in use (R120). -/
def Device.clip (d : Device) (i : Nat) : Option ClipEntry :=
  (d.clipPool[i]?).join

/-- The entries in use of a pool, each with its number, in number order. -/
def poolEntries {α : Type} : Nat → List (Option α) → List (Nat × α)
  | _, [] => []
  | i, none :: xs => poolEntries (i + 1) xs
  | i, some x :: xs => (i, x) :: poolEntries (i + 1) xs

/-- The cue pool entries of a track, ACTIVE and RETIRED alike (R79). -/
def Device.trackCues (d : Device) (t : Slot) : List (Nat × CueEntry) :=
  (poolEntries 0 d.cuePool.toList).filter fun x => x.2.track == t

/-- The clip pool entries of a track (R120). -/
def Device.trackClips (d : Device) (t : Slot) : List (Nat × ClipEntry) :=
  (poolEntries 0 d.clipPool.toList).filter fun x => x.2.track == t

/-- The lowest-numbered free entry of a pool (R80, R121). -/
def lowestFree {α : Type} : Nat → List (Option α) → Option Nat
  | _, [] => none
  | i, none :: _ => some i
  | i, some _ :: xs => lowestFree (i + 1) xs

/-- An entry put into a list after every entry that must not come after it. -/
def insertBy {α : Type} (before : α → α → Bool) (x : α) : List α → List α
  | [] => [x]
  | y :: ys => if before x y then x :: y :: ys else y :: insertBy before x ys

/-- Whether a cue stands before another on the active list: by start frame, then by arrival (R86). -/
def cueBefore (a b : Nat × CueEntry) : Bool :=
  decide (a.2.start < b.2.start) || (decide (a.2.start = b.2.start) && decide (a.2.arrival < b.2.arrival))

/-- The ACTIVE cues of a track in active-list order (R86). -/
def Device.activeCues (d : Device) (t : Slot) : List (Nat × CueEntry) :=
  ((d.trackCues t).filter fun x => x.2.status == .active).foldl (fun l x => insertBy cueBefore x l) []

/-- The clip schedule of a track: its clip pool entries ordered by s (R122). -/
def Device.schedule (d : Device) (t : Slot) : List (Nat × ClipEntry) :=
  (d.trackClips t).foldl (fun l x => insertBy (fun a b => decide (a.2.start < b.2.start)) x l) []

/-- The intake slots of a track that are held: those that a pool entry of the track refers to (R6, R88, R114). -/
def Device.slotHeld (d : Device) (t : Slot) (n : Nat) : Bool :=
  ((d.trackCues t).any fun x => x.2.intakeSlot == n) || ((d.trackClips t).any fun x => x.2.intakeSlot == n)

/-- The track slots in order. -/
def allSlots : List Slot :=
  List.finRange 16

/-- The lanes in order. -/
def allLanes : List LaneNo :=
  List.finRange 4

/-- The track that holds a lane, with its slot (R42). -/
def Device.laneHolder (d : Device) (l : LaneNo) : Option (Slot × ClipTrack) :=
  allSlots.findSome? fun t =>
    match (d.track t).clips with
    | none => none
    | some x => if x.lane = l then some (t, x) else none

/-! ## Reports (R163) -/

/-- The slot count Cr of a ring: its size divided by 64 (R162). -/
def ReportRing.slotCount (r : ReportRing) : Nat :=
  r.size / 64

/-- The acceptance test of a posted report (R163). -/
def ReportWriter.accepts (w : ReportWriter) : Bool :=
  match w.ring with
  | none => false
  | some r =>
    decide (w.queue.length < Config.postQueueDepth) &&
      decide (r.written - r.read + (if w.writing.isSome then 1 else 0) + w.queue.length < r.slotCount)

/-- The report writer after a report is posted: queued, or lost and counted (R163). -/
def ReportWriter.posted (w : ReportWriter) (x : Report) : ReportWriter :=
  if w.accepts then { w with queue := w.queue ++ [x] } else { w with lost := satAdd w.lost 1 }

/-- A report is posted (R163). -/
def Device.post (d : Device) (x : Report) : Device :=
  { d with reports := d.reports.posted x }

/-- A directive is refused: DIRECTIVE REFUSED is posted with the partial-write count, which returns to 0 (R24, R28). -/
def Device.refuse (d : Device) (x : Directive) (reason : RefusalReason) : Device :=
  let e := d.engine
  { d.post (.directiveRefused x.headerSlot reason x e.partialWrites) with engine := { e with partialWrites := 0 } }

/-! ## The window table (R2, R4) -/

/-- The intake window entry of a track slot (R2). -/
def intakeEntry (t : Slot) : EntryNo :=
  ⟨2 + 2 * t.val, by omega⟩

/-- The output window entry of a track slot (R2). -/
def outputEntry (t : Slot) : EntryNo :=
  ⟨3 + 2 * t.val, by omega⟩

/-- Whether an address lies in a window (R3). -/
def Window.holds (w : Window) (a : Addr) : Bool :=
  decide (w.base.toNat ≤ a.toNat) && decide (a.toNat < w.base.toNat + w.size)

/-- The overlap test of R4: whether a range shares no byte with a live entry, one entry left out. -/
def Device.rangeFree (d : Device) (leaveOut : Option EntryNo) (base : Addr) (size : Nat) : Bool :=
  (List.finRange 34).all fun i =>
    match d.windows[i.val] with
    | none => true
    | some e =>
      decide (leaveOut = some i) || !rangesOverlap base.toNat size e.window.base.toNat e.window.size

/-- A window entry is written, with fresh parity (R4). -/
def Device.install (d : Device) (i : EntryNo) (w : Window) : Device :=
  { d with windows := d.windows.set i.val (some ⟨w, true⟩) }

/-- A queued write whose match is removed: it is unmatched, it reverts to its original data, and if it was held it is
presented (R4, R10, R11). -/
def QueuedWrite.reverted (w : QueuedWrite) : QueuedWrite :=
  { w with
    found := none
    beats := w.original
    status := if w.status = .held then .ready else w.status }

/-- Whether a match names an entry of this kind. -/
def matchNames (p : EntryNo → Bool) : Option WindowMatch → Bool
  | none => false
  | some m => p m.entry

/-- A burst outstanding on the memory port whose match is removed: its read is answered without a watch event (R4). -/
def Outstanding.unmatched (p : EntryNo → Bool) (o : Outstanding) : Outstanding :=
  match o.purpose with
  | .throughRead id found => if matchNames p found then { o with purpose := .throughRead id none } else o
  | .throughWrite _ => o
  | .descriptor _ _ => o
  | .samples _ => o
  | .record _ => o
  | .report => o

/-- Every burst whose match names such an entry is unmatched (R4). -/
def Device.unmatch (d : Device) (p : EntryNo → Bool) : Device :=
  { d with
    writeQueue := d.writeQueue.map fun w => if matchNames p w.found then w.reverted else w
    readList := d.readList.map fun r => if matchNames p r.found then { r with found := none } else r
    outstanding := d.outstanding.map (Outstanding.unmatched p) }

/-- Window entries become absent, and the bursts that name them are unmatched (R4). -/
def Device.removeWindows (d : Device) (p : EntryNo → Bool) : Device :=
  { d.unmatch p with
    windows := d.windows.mapFinIdx fun i e h => if p ⟨i, h⟩ then none else e }

/-! ## Freeing a track (R47) -/

/-- A pool without the entries of a track (R47 step 5). -/
def freeCues (t : Slot) (pool : Vector (Option CueEntry) 256) : Vector (Option CueEntry) 256 :=
  pool.map fun e =>
    match e with
    | none => none
    | some c => if c.track = t then none else some c

/-- The clip pool without the entries of a track (R47 step 5). -/
def freeClips (t : Slot) (pool : Vector (Option ClipEntry) 64) : Vector (Option ClipEntry) 64 :=
  pool.map fun e =>
    match e with
    | none => none
    | some c => if c.track = t then none else some c

/-- A slot becomes FREE: its windows are removed with the effects of R4 (a held burst is presented with its original
data), its requests not yet granted are withdrawn with the state that holds them, its pool entries and holds and its
lane are freed, and its context becomes absent (R47, R111, R126, R155). Bursts already granted stay outstanding, and
their responses match nothing when they arrive. DESIGN CHOICE (unsafe, log entry 35): outside BYPASS entry, too, the freeing
checks no pool entry, and a damaged entry of the track is freed with the others. -/
def Device.freeTrack (d : Device) (t : Slot) : Device :=
  { (d.removeWindows fun i => decide (i = intakeEntry t) || decide (i = outputEntry t)).setTrack t
      TrackContext.freeContext with
    cuePool := freeCues t d.cuePool
    clipPool := freeClips t d.clipPool }

/-- The TRACK SUMMARY of a track (R169, R170). -/
def trackSummary (t : Slot) (c : TrackContext) : Option Report :=
  match c.body with
  | .absent => none
  | .text x => some (.trackSummary t .text [false, false, false, false] x.counters.words)
  | .description x => some (.trackSummary t .description x.counters.laneFlags x.counters.words)

/-- The end of a drain: TRACK SUMMARY is posted and the slot becomes FREE (R45, R46, R47). -/
def Device.completeDrain (d : Device) (t : Slot) : Device :=
  match trackSummary t (d.track t) with
  | none => d.freeTrack t
  | some r => (d.post r).freeTrack t

/-! ## Integrity faults (R173 to R176) -/

/-- Whether a queue entry stays at BYPASS entry: a SET REPORT RING or CLEAR BYPASS of good parity (R34). -/
def QueuedDirective.keptInBypass (q : QueuedDirective) : Bool :=
  q.parityOk && (directiveKind q.directive.kind).inBypass

/-- The report window entry written from the report writer's ring setting, absent where no ring is set (R174 step 5). -/
def ReportWriter.windowEntry (w : ReportWriter) : Option WindowEntry :=
  match w.ring with
  | none => none
  | some r => some ⟨⟨r.base, r.size, .report, none⟩, true⟩

/-- The window table after BYPASS entry: entries 0 and 1 written afresh from their sources, every other absent (R174
step 5). -/
def bypassWindows (straps : BitVec 16) (w : ReportWriter) : Vector (Option WindowEntry) 34 :=
  ((Vector.replicate 34 none).set 0 (some ⟨controlWindow straps, true⟩)).set 1 w.windowEntry

/-- The BYPASS entry event (R174): fault cause, mode and queue filter, every track freed, mix writes reverted, tables
written afresh, and last BYPASS ENTERED. ATTN follows at the end of the event. -/
def Device.enterBypass (d : Device) (cause : ParityCause) (entry : Nat) : Device :=
  let kept := d.engine.queue.filter QueuedDirective.keptInBypass
  let freed := d.unmatch fun i => decide (2 ≤ i.val)
  let cleared : Device :=
    { freed with
      monitor := { d.monitor with faultCause := some cause }
      engine := { d.engine with mode := .bypass, queue := kept }
      tracks := Vector.replicate 16 TrackContext.freeContext
      cuePool := Vector.replicate 256 none
      clipPool := Vector.replicate 64 none
      windows := bypassWindows d.strapLatch d.reports }
  cleared.post <| .bypassEntered
    { reason := cause
      isRepeat := false
      faultCause := some cause
      entry := entry
      left := d.tracks.toList.map TrackContext.state
      discarded := d.engine.queue.length - kept.length
      repeatCount := d.monitor.repeatCount }

/-- A damaged window entry written again from its source: entry 0 from the strap latch, entry 1 from the ring setting
(R176). No other entry is live in BYPASS; one has no source and becomes absent. -/
def Device.rewriteWindow (d : Device) (entry : Nat) : Device :=
  if entry = 0 then { d with windows := d.windows.set 0 (some ⟨controlWindow d.strapLatch, true⟩) }
  else if entry = 1 then { d with windows := d.windows.set 1 d.reports.windowEntry }
  else { d with windows := d.windows.setIfInBounds entry none }

/-- A parity error found in BYPASS (R176): the damaged window entry is written again, the repeat count rises and BYPASS
ENTERED is posted with the repeat flag set. -/
def Device.repeatFault (d : Device) (cause : ParityCause) (entry : Nat) : Device :=
  let n := min 255 (d.monitor.repeatCount + 1)
  let fixed := if cause = .window then d.rewriteWindow entry else d
  { fixed with monitor := { d.monitor with repeatCount := n } }.post <| .bypassEntered
    { reason := cause
      isRepeat := true
      faultCause := d.monitor.faultCause
      entry := entry
      left := List.replicate 16 .free
      discarded := 0
      repeatCount := n }

/-- A reader tells the integrity monitor of a parity error, after its own handling (R173). -/
def Device.tellMonitor (d : Device) (cause : ParityCause) (entry : Nat) : Device :=
  match d.engine.mode with
  | .normal => d.enterBypass cause entry
  | .bypass => d.repeatFault cause entry

/-- An event reads a track context: a context that fails its parity check leaves the event without a change, and the
monitor is told (R35, R172). -/
def Device.readingTrack (d : Device) (t : Slot) (k : TrackContext → Device) : Device :=
  if (d.track t).parityOk then k (d.track t) else d.tellMonitor .track t.val

/-! ## Faulted tracks (R53) -/

/-- A TEXT track's state at the entry into FAULTED: its records are abandoned and no close waits (R53, R105). -/
def TextTrack.stopped (x : TextTrack) : TextTrack :=
  { x with pendingRetune := none, drainEnd := none, records := [], flight := none, waitingClose := false }

/-- A DESCRIPTION track's state at the entry into FAULTED: no hold, no request, its reads abandoned (R53, R150, R161). -/
def ClipTrack.stopped (x : ClipTrack) : ClipTrack :=
  { x with
    degradedMark := none
    held := none
    timer := .idle
    request := none
    reads := x.reads.map fun r => { r with abandoned := true } }

/-- The body of a context at the entry into FAULTED. -/
def TrackBody.stopped : TrackBody → TrackBody
  | .absent => .absent
  | .text x => .text x.stopped
  | .description x => .description x.stopped

/-- A track enters FAULTED: its work stops and TRACK FAULTED is posted with the state it left (R53). -/
def Device.faultTrack (d : Device) (t : Slot) (cause : TrackFault) : Device :=
  let c := d.track t
  (d.setTrack t { c with state := .faulted, faultCause := some cause, body := c.body.stopped }).post
    (.trackFaulted t cause c.state)

/-! ## Waits behind queued writes (R12, R13) -/

/-- The bytes that a queued write spans. -/
def QueuedWrite.overlaps (w : QueuedWrite) (addr : Addr) (count : Nat) : Bool :=
  rangesOverlap w.addr.toNat (8 * w.beats.length) addr.toNat (8 * count)

/-- Whether no write that was in the queue before this arrival number, and shares a byte with the read, is still there
(R12, R13). Strobes do not matter. -/
def Device.readClear (d : Device) (before : Nat) (addr : Addr) (count : Nat) : Bool :=
  d.writeQueue.all fun w => !(decide (w.arrival < before) && w.overlaps addr count)

/-! ## Issuing on the memory port (R1, R15) -/

/-- A read burst is issued: it is outstanding under the part's next identifier. -/
def Device.issueRead (d : Device) (who : Requester) (purpose : Purpose) (addr : Addr) (count : Nat) : Device :=
  { d with
    outstanding := d.outstanding ++ [⟨d.nextTag, purpose, addr, count⟩]
    nextTag := d.nextTag + 1
    ports := d.ports ++ [.issueRead d.nextTag who addr count] }

/-- A write burst is issued: it is outstanding under the part's next identifier. -/
def Device.issueWrite (d : Device) (who : Requester) (purpose : Purpose) (addr : Addr) (beats : List Beat) : Device :=
  { d with
    outstanding := d.outstanding ++ [⟨d.nextTag, purpose, addr, beats.length⟩]
    nextTag := d.nextTag + 1
    ports := d.ports ++ [.issueWrite d.nextTag who addr beats] }

/-- Something is shown at the upstream port. -/
def Device.show (d : Device) (e : PortEvent) : Device :=
  { d with ports := d.ports ++ [e] }

/-- A burst answered on the memory port is outstanding no more (R15). -/
def Device.answered (d : Device) (tag : Nat) : Device :=
  { d with outstanding := d.outstanding.filter fun o => o.tag != tag }

/-- The outstanding burst of an identifier (R17). -/
def Device.outstandingOf (d : Device) (tag : Nat) : Option Outstanding :=
  d.outstanding.find? fun o => o.tag == tag

/-! ## What ends every event -/

/-- A queued read that is eligible (R12). -/
def Device.eligible (d : Device) (r : QueuedRead) : Bool :=
  d.readClear r.arrival r.addr r.count

/-- The burst that the through-path presents when it presents none: of the oldest eligible read and the head write, if it
is ready, the one that arrived first (R14). -/
def Device.choosePresented (d : Device) : Option Presented :=
  match d.readList.find? d.eligible, d.writeQueue.head? with
  | none, none => none
  | none, some w => if w.status = .ready then some .write else none
  | some r, none => some (.read r.arrival)
  | some r, some w =>
    if w.status = .ready then (if w.arrival < r.arrival then some .write else some (.read r.arrival))
    else some (.read r.arrival)

/-- A presented burst stays presented; otherwise one is chosen (R14). -/
def Device.present (d : Device) : Device :=
  { d with presented := match d.presented with
      | some p => some p
      | none => d.choosePresented }

/-- Whether a slot of the report ring is WRITTEN. -/
def ReportWriter.anyWritten (w : ReportWriter) : Bool :=
  match w.ring with
  | none => false
  | some r => r.slots.any fun s => s == .written

/-- The level that R167 and R171 give ATTN: high in BYPASS and while a report slot is WRITTEN, low while RESET_N is
low. -/
def Device.attnLevel (d : Device) : Bool :=
  d.resetN && (decide (d.engine.mode = .bypass) || d.reports.anyWritten)

/-- The end of an event: the through-path presents a burst if it can, and ATTN takes its level (R14, R167). -/
def Device.settle (d : Device) : Device :=
  { d.present with attn := d.attnLevel }

/-- One event of the part: while RESET_N is low nothing happens (R171); otherwise the event's work is done from a fresh
view of the ports, and the event is settled. -/
def Device.event (d : Device) (work : Device → Device) : Device :=
  if d.resetN then (work { d with ports := [] }).settle else { d with ports := [] }

/-- A command that always goes on: the device after the event, the queue of commands untouched. -/
def State.ran (s : State) (work : Device → Device) : Host.Outcome State Fault Refusal :=
  .next { s with dev := s.dev.event work }

end Sys2Proof.Machine
end

