-- ==== Sys2Proof/Machine/Segmenter.lean ====
section
/-! DEFINITION. Segmentation and the index ring (spec 06): when the open segment closes, the making of a close, the
writing of records, and their consumption. -/

namespace Sys2Proof.Machine

open Sys2Proof

/-! ## When a segment closes -/

/-- B_{k+1}, the end boundary of the open segment (R65). -/
def TextTrack.openEnd (x : TextTrack) : Nat :=
  x.openStart + x.openLength

/-- C, the number of index slots (R93). -/
def TextTrack.capacity (x : TextTrack) : Nat :=
  x.slots.length

/-- The state of the index slot of a segment number, n mod C (R93). -/
def TextTrack.slotOf (x : TextTrack) (n : Nat) : Option IndexSlot :=
  x.slots[n % x.capacity]?

/-- Whether a value that may be absent is at or above a bound. -/
def atLeast (bound : Nat) : Option Nat → Bool
  | none => false
  | some h => decide (bound ≤ h)

/-- The drain condition: B_k is before the drain end (R95). -/
def TextTrack.beforeDrainEnd (x : TextTrack) : Bool :=
  match x.drainEnd with
  | none => false
  | some e => decide (x.openStart < e)

/-- Whether the open segment is due in a track state (R95, R67). -/
def TextTrack.due (x : TextTrack) : TrackState → Bool
  | .free => false
  | .loading => false
  | .running => atLeast (x.openEnd + x.tuning.reorder) x.horizon || atLeast x.openEnd x.flushFrame
  | .stalled => atLeast (x.openEnd + x.tuning.reorder) x.horizon || atLeast x.openEnd x.flushFrame
  | .degraded => false
  | .draining => x.beforeDrainEnd
  | .faulted => false

/-! ## Making a close (R98) -/

/-- The fragment of a cue in the segment from `b0` to `b1`, if it intersects it (R66, R99). -/
def fragmentOf (code b0 b1 : Nat) (c : CueEntry) : Option Fragment :=
  if max c.start b0 < min c.stop b1 then
    some
      { intakeSlot := c.intakeSlot
        hostId := c.hostId
        startOffset := ticks code (max c.start b0) - ticks code b0
        endOffset := ticks code (min c.stop b1) - ticks code b0
        row := c.row
        height := c.height
        style := c.style
        contIn := decide (c.start < b0)
        contOut := decide (b1 < c.stop)
        flags := c.flags }
  else none

/-- Whether the close of the open segment is the last close of a drain (R110). -/
def TextTrack.lastOfDrain (x : TextTrack) (st : TrackState) : Bool :=
  decide (st = .draining) &&
    match x.drainEnd with
    | none => false
    | some e => decide (e ≤ x.openEnd)

/-- The record assembled from the ACTIVE cues of a track in active-list order (R98 steps 2 to 4, R99, R100, R102). -/
def assemble (t : Slot) (st : TrackState) (x : TextTrack) (cues : List CueEntry) : SegmentRecord :=
  let code := x.settings.rate.code
  let all := cues.filterMap (fragmentOf code x.openStart x.openEnd)
  { slot := t
    segment := x.next
    startTick := ticks code x.openStart
    lengthTicks := ticks code x.openEnd - ticks code x.openStart
    fragments := all.take Config.fragmentLimit
    omitted := all.length - Config.fragmentLimit
    overflow := decide (Config.fragmentLimit < all.length)
    final := x.lastOfDrain st }

/-- Whether a cue is an ACTIVE one of a track that ends at or before a boundary (R101). -/
def CueEntry.endsBy (c : CueEntry) (t : Slot) (b : Nat) : Bool :=
  decide (c.track = t) && decide (c.status = .active) && decide (c.stop ≤ b)

/-- The cue pool after a close of segment k that ends at `b`: the track's ACTIVE cues that end by then are RETIRED with last
record k (R101). -/
def retireCues (t : Slot) (k b : Nat) (pool : Vector (Option CueEntry) 256) : Vector (Option CueEntry) 256 :=
  pool.map fun e =>
    match e with
    | none => none
    | some c => if c.endsBy t b then some { c with status := .retired k } else some c

/-- A record that begins: none of its bursts granted (R103). -/
def Flight.begun : Flight :=
  ⟨0, 0, []⟩

/-- The segmenter's state after a close has assembled this record (R98 steps 1, 6, 7 and 8, R50, R65). -/
def TextTrack.closed (x : TextTrack) (r : SegmentRecord) : TextTrack :=
  let tuning := x.pendingRetune.getD x.tuning
  { x with
    slots := x.slots.set (x.next % x.capacity) .writing
    tuning := tuning
    pendingRetune := none
    next := x.next + 1
    openStart := x.openEnd
    openLength := tuning.segmentLength
    records := x.records ++ [r]
    flight := match x.flight with
      | none => some Flight.begun
      | some f => some f
    waitingClose := false }

/-- A close of the open segment of a track (R98). -/
def Device.closeSegment (d : Device) (t : Slot) (x : TextTrack) : Device :=
  let r := assemble t (d.track t).state x ((d.activeCues t).map Prod.snd)
  { d.setText t (x.closed r) with cuePool := retireCues t x.next x.openEnd d.cuePool }

/-- The number of WRITTEN index slots of a track (R51). -/
def TextTrack.writtenSlots (x : TextTrack) : Nat :=
  (x.slots.filter fun s => s == .written).length

/-- A close that is due finds no EMPTY slot: it waits, and a RUNNING track stalls (R97, R51). -/
def Device.blockClose (d : Device) (t : Slot) (x : TextTrack) : Device :=
  if (d.track t).state = .running then
    let y := { x with waitingClose := true, counters := { x.counters with stalls := satAdd x.counters.stalls 1 } }
    ((d.setText t y).setTrackState t .stalled).post (.trackStalled t x.next x.tuning.stall x.writtenSlots)
  else d.setText t { x with waitingClose := true }

/-- The closes of a decision, at most `n` of them (R96). Each test uses the track as the closes before it left it. -/
def Device.makeCloses : Nat → Device → Slot → Device
  | 0, d, _ => d
  | n + 1, d, t =>
    match (d.track t).text with
    | none => d
    | some x =>
      if x.due (d.track t).state then
        if x.slotOf x.next = some .empty then Device.makeCloses n (d.closeSegment t x) t
        else d.blockClose t x
      else d

/-- The number of the lowest-numbered ACTIVE cue of a track that fails its parity check (R112). -/
def Device.damagedActive (d : Device) (t : Slot) : Option Nat :=
  ((d.trackCues t).find? fun x => x.2.status == .active && !x.2.parityOk).map Prod.fst

/-- Whether a cue is RETIRED. -/
def CueEntry.isRetired (c : CueEntry) : Bool :=
  match c.status with
  | .active => false
  | .retired _ => true

/-- The number of the lowest-numbered RETIRED cue of a track that fails its parity check (R112). -/
def Device.damagedRetired (d : Device) (t : Slot) : Option Nat :=
  ((d.trackCues t).find? fun x => x.2.isRetired && !x.2.parityOk).map Prod.fst

/-- Whether a close decision would make a close now. -/
def Device.closeReady (d : Device) (t : Slot) : Bool :=
  match (d.track t).text with
  | none => false
  | some x => x.due (d.track t).state && decide (x.slotOf x.next = some .empty)

/-- A close decision at the end of an event's work for a track (R96). A damaged cue read for a close ends that work with no
change from it: the device `before` the work stands, and the monitor is told (R112, log entry 13). The EMPTY slots bound
the number of closes, so C + 1 rounds end every decision. -/
def Device.decideClose (d : Device) (t : Slot) (before : Device) : Device :=
  match (d.track t).text with
  | none => d
  | some x =>
    match (if d.closeReady t then d.damagedActive t else none) with
    | some i => before.tellMonitor .cue i
    | none => Device.makeCloses (x.capacity + 1) d t

/-! ## Writing records (R103 to R105) -/

/-- The burst of the record in flight that is presented now, if one is: the next body burst, or the trailer once every
body burst is answered OK (R103). -/
def Flight.presented (f : Flight) : Option Nat :=
  if f.granted < 8 then some f.granted
  else if f.granted = 8 ∧ f.answered = 8 then some 8
  else none

/-- The burst that the record writer presents for a track: its number, and the record it belongs to. -/
def TextTrack.recordBurst (x : TextTrack) : Option (Nat × SegmentRecord) :=
  match x.flight, x.records with
  | none, _ => none
  | some _, [] => none
  | some f, r :: _ => f.presented.map fun i => (i, r)

/-- The address of burst i of a record: index ring base + slot × 1024 + its offset (R103). -/
def TextTrack.burstAddr (x : TextTrack) (r : SegmentRecord) (i : Nat) : Addr :=
  x.settings.indexBase +
    BitVec.ofNat 40 (1024 * (r.segment % x.capacity) + (recordBurstPlace i).1)

/-- The counters after a record is written (R104, R113). -/
def TextCounters.recordWritten (c : TextCounters) (r : SegmentRecord) : TextCounters :=
  { c with
    recordsWritten := satAdd c.recordsWritten 1
    emptyRecords := countIf r.fragments.isEmpty c.emptyRecords
    overflowRecords := countIf r.overflow c.overflowRecords
    fragmentsOmitted := satAdd c.fragmentsOmitted r.omitted }

/-- The segmenter's state when the trailer of the record in flight is answered OK (R104). -/
def TextTrack.recordDone (x : TextTrack) : TextTrack :=
  match x.records with
  | [] => { x with flight := none }
  | r :: rest =>
    { x with
      slots := x.slots.set (r.segment % x.capacity) .written
      records := rest
      flight := if rest.isEmpty then none else some Flight.begun
      counters := x.counters.recordWritten r }

/-- The segmenter's state when a burst of the record in flight is answered OK (R103, R104). -/
def TextTrack.recordAnswered (x : TextTrack) (f : Flight) (tag : Nat) : TextTrack :=
  if f.answered + 1 = 9 then x.recordDone
  else { x with flight := some { f with answered := f.answered + 1, tags := f.tags.erase tag } }

/-- A response to a segment record burst of a track (R104, R105). A response that belongs to no record in flight is
discarded: its record was abandoned, or its track is gone (R17, R105, R111). The slot's body is looked at before its parity is
checked: DESIGN CHOICE (unsafe, log entry 37). -/
def Device.recordResponse (d : Device) (t : Slot) (o : Outstanding) (resp : Resp) : Device :=
  match (d.track t).text with
  | none => d
  | some x =>
    match x.flight with
    | none => d
    | some f =>
      if f.tags.contains o.tag then
        match resp with
        | .ok => d.readingTrack t fun _ => d.setText t (x.recordAnswered f o.tag)
        | .error =>
          let e := d.post (.memoryError t none o.addr o.count)
          e.readingTrack t fun _ => e.faultTrack t .recordError
      else d

/-! ## Consumption (R106 to R110) -/

/-- Where the consume point comes to rest: it passes CONSUMED slots up to k (R108). -/
def consumeEnd (slots : List IndexSlot) (k : Nat) : Nat → Nat → Nat
  | 0, c => c
  | n + 1, c =>
    if c < k ∧ slots[c % slots.length]? = some .consumed then consumeEnd slots k n (c + 1) else c

/-- The slots after the consume point has passed `n` segments from `c` on: each is EMPTY (R108 step 1). -/
def emptySlots (slots : List IndexSlot) (c : Nat) : Nat → List IndexSlot
  | 0 => slots
  | n + 1 => emptySlots (slots.set (c % slots.length) .empty) (c + 1) n

/-- Whether a cue is a RETIRED one of a track whose last record lies from `c` up to but not including `e` (R108 step 2). -/
def CueEntry.releasedBy (x : CueEntry) (t : Slot) (c e : Nat) : Bool :=
  decide (x.track = t) &&
    match x.status with
    | .active => false
    | .retired n => decide (c ≤ n) && decide (n < e)

/-- The cue pool after the consume point has passed the segments from `c` up to but not including `e` (R108). -/
def releaseCues (t : Slot) (c e : Nat) (pool : Vector (Option CueEntry) 256) : Vector (Option CueEntry) 256 :=
  pool.map fun entry =>
    match entry with
    | none => none
    | some x => if x.releasedBy t c e then none else some x

/-- The track leaves STALLED for RUNNING, TRACK RESUMED is posted with the number of the waiting segment, and a close
decision is made (R51, R52, R109), in an event whose work for the track began at `before`. -/
def Device.resumeTrack (d : Device) (t : Slot) (x : TextTrack) (cause : ResumeCause) (before : Device) : Device :=
  ((d.setTrackState t .running).post (.trackResumed t cause x.next)).decideClose t before

/-- The drain is complete: the FINAL record has been passed, and every index slot is EMPTY (R45, R110). -/
def TextTrack.drained (x : TextTrack) : Bool :=
  !x.beforeDrainEnd && decide (x.consume = x.next)

/-- What follows an advance of the consume point in the track's state (R109), in an event whose work for the track began at
`before`. -/
def Device.afterAdvance (d : Device) (t : Slot) (x : TextTrack) (before : Device) : Device :=
  match (d.track t).state with
  | .free => d
  | .loading => d
  | .running => d
  | .stalled =>
    match x.tuning.stall with
    | .auto => d.resumeTrack t x .auto before
    | .lock => d
  | .degraded => d
  | .draining =>
    if x.waitingClose then d.decideClose t before
    else if x.drained then d.completeDrain t
    else d
  | .faulted => d

/-- The slot of the consume point has become CONSUMED: the consume point advances (R108, R109). -/
def Device.advanceConsume (d : Device) (t : Slot) (x : TextTrack) : Device :=
  let e := consumeEnd x.slots x.next x.capacity x.consume
  let released := ((d.trackCues t).filter fun y => y.2.releasedBy t x.consume e).length
  let y : TextTrack :=
    { x with
      slots := emptySlots x.slots x.consume (e - x.consume)
      consume := e
      counters := { x.counters with cuesReleased := satAdd x.counters.cuesReleased released } }
  Device.afterAdvance { d.setText t y with cuePool := releaseCues t x.consume e d.cuePool } t y d

/-- A trailer-read event of a WRITTEN index slot: it becomes CONSUMED, and the consume point advances if the slot is its own
(R106). A damaged RETIRED cue read for the release ends the work with no change from it (R112). -/
def Device.consumeSlot (d : Device) (t : Slot) (x : TextTrack) (i : Nat) : Device :=
  let y := { x with slots := x.slots.set i .consumed }
  if i = x.consume % x.capacity then
    match d.damagedRetired t with
    | some n => d.tellMonitor .cue n
    | none => d.advanceConsume t y
  else d.setText t y

/-- The effect of a trailer-read event on a track whose state lets it act (R106). -/
def Device.trailerReadIn (d : Device) (t : Slot) (x : TextTrack) (i : Nat) : Device :=
  match x.slots[i]? with
  | none => d
  | some .empty => d
  | some .writing =>
    d.setText t { x with counters := { x.counters with earlyReads := satAdd x.counters.earlyReads 1 } }
  | some .written => d.consumeSlot t x i
  | some .consumed => d

/-- Whether trailer-read events change index slots in a track state (R106). -/
def TrackState.consumes : TrackState → Bool
  | .free => false
  | .loading => false
  | .running => true
  | .stalled => true
  | .degraded => false
  | .draining => true
  | .faulted => false

/-- A trailer-read event of an index slot of a track (R106, R107). The slot's body is looked at before its parity is checked:
DESIGN CHOICE (unsafe, log entry 37). -/
def Device.indexTrailerRead (d : Device) (t : Slot) (i : Nat) : Device :=
  match (d.track t).text with
  | none => d
  | some x =>
    d.readingTrack t fun c => if c.state.consumes then d.trailerReadIn t x i else d

/-! ## Draining (R45, R110) -/

/-- The latest end frame of the cues on an active list (R45). -/
def latestEnd (cues : List (Nat × CueEntry)) : Nat :=
  cues.foldl (fun m c => max m c.2.stop) 0

/-- The drain end that CLOSE TRACK sets (R45). -/
def Device.drainEndOf (d : Device) (t : Slot) (x : TextTrack) : Nat :=
  if latestEnd (d.activeCues t) ≤ x.openStart then x.openStart + 1 else latestEnd (d.activeCues t)

end Sys2Proof.Machine
end

