-- ==== Sys2Proof/Machine/CueIntake.lean ====
section
/-! DEFINITION. Cue intake and screen layout (spec 05): the ten intake steps of a captured cue record. -/

namespace Sys2Proof.Machine

open Sys2Proof

/-! ## Step 1: the record (R74) -/

/-- The first check of R74 that a cue record fails. -/
def CueRecord.invalid (r : CueRecord) (code : Nat) : Option DropDetail :=
  if r.kind ≠ 1 then some .kind
  else if r.textLength = 0 ∨ 96 < r.textLength then some .length
  else if 4 < (textLines r.text).length then some .lines
  else if 2 < r.anchor then some .anchor
  else if r.start.outOfRange code || r.stop.outOfRange code then some .timecode
  else none

/-! ## Step 7: rows (R81 to R83) -/

/-- The height of lines numbered from `i`, with their double-height flags (R81). -/
def linesHeight (mask : BitVec 8) : Nat → List (List Byte) → Nat
  | _, [] => 0
  | i, _ :: ls => (if mask.getLsbD i then 2 else 1) + linesHeight mask (i + 1) ls

/-- A cue's height (R81). -/
def CueRecord.height (r : CueRecord) : Nat :=
  linesHeight r.doubleHeight 0 (textLines r.text)

/-- The numbers from `n` down to 0. -/
def downFrom : Nat → List Nat
  | 0 => [0]
  | n + 1 => (n + 1) :: downFrom n

/-- The candidate top rows in the order the anchor sets (R82): BOTTOM, TOP, or ROW with its anchor row. -/
def candidateRows (anchor anchorRow h : Nat) : List Nat :=
  if anchor = 0 then downFrom (16 - h)
  else if anchor = 1 then List.range (17 - h)
  else
    let n := min anchorRow (16 - h)
    downFrom n ++ (List.range (17 - h)).filter fun r => decide (n < r)

/-- Whether two row bands share a row. -/
def bandsMeet (r1 h1 r2 h2 : Nat) : Bool :=
  decide (r1 < r2 + h2) && decide (r2 < r1 + h1)

/-- Whether a cue already placed blocks a band during an interval (R83). -/
def CueEntry.blocks (c : CueEntry) (start stop row h : Nat) : Bool :=
  decide (c.start < stop) && decide (start < c.stop) && bandsMeet c.row c.height row h

/-- Whether a candidate top row is free (R83). -/
def rowFree (cues : List (Nat × CueEntry)) (start stop h row : Nat) : Bool :=
  cues.all fun c => !c.2.blocks start stop row h

/-- The row a cue is placed on, if a candidate is free (R82, R83). -/
def placeRow (cues : List (Nat × CueEntry)) (start stop h : Nat) (candidates : List Nat) : Option Nat :=
  candidates.find? (rowFree cues start stop h)

/-- Whether the clamp of R82 moves a ROW anchor. -/
def CueRecord.clampedRow (r : CueRecord) : Bool :=
  decide (r.anchor = 2) && decide (16 - r.height < r.anchorRow)

/-! ## Step 8: the gap rule (R84) -/

/-- Whether an earlier cue E is moved to a new cue's start (R84), given the ACTIVE cues as the moves before have left
them. -/
def gapCloses (minGap openStart : Nat) (cues : List (Nat × CueEntry)) (e : Nat × CueEntry) (start row h : Nat) : Bool :=
  decide (e.2.stop < start) && decide (start - e.2.stop < minGap) && bandsMeet e.2.row e.2.height row h &&
    decide (openStart ≤ e.2.stop) &&
    cues.all fun f => f.1 == e.1 || !f.2.blocks e.2.stop start e.2.row e.2.height

/-- A cue whose gap is closed (R84). -/
def CueEntry.extendTo (c : CueEntry) (start : Nat) : CueEntry :=
  { c with stop := start, flags := { c.flags with gapClosed := true } }

/-- The gap rule over the ACTIVE cues in active-list order (R84). `order` holds the entry numbers still to be taken; `cues` is
the list as moved so far. The result holds the moved list and the number of moves. -/
def closeGaps (minGap openStart start row h : Nat) : List Nat → List (Nat × CueEntry) → Nat → List (Nat × CueEntry) × Nat
  | [], cues, n => (cues, n)
  | i :: rest, cues, n =>
    match cues.find? fun c => c.1 == i with
    | none => closeGaps minGap openStart start row h rest cues n
    | some e =>
      if gapCloses minGap openStart cues e start row h then
        closeGaps minGap openStart start row h rest
          (cues.map fun c => if c.1 == i then (c.1, c.2.extendTo start) else c) (n + 1)
      else closeGaps minGap openStart start row h rest cues n

/-- The pool with these entries written over it. -/
def writeCues (pool : Vector (Option CueEntry) 256) (cues : List (Nat × CueEntry)) : Vector (Option CueEntry) 256 :=
  cues.foldl (fun p c => p.setIfInBounds c.1 (some c.2)) pool

/-! ## Step 6: the pool (R80) -/

/-- Entries of the cue pool in use. -/
def Device.cuesInUse (d : Device) : Nat :=
  (poolEntries 0 d.cuePool.toList).length

/-- Whether a track holds a pool: it does from the taking of its descriptor until FREE (R41). -/
def TrackState.holdsPool : TrackState → Bool
  | .free => false
  | .loading => false
  | .running => true
  | .stalled => true
  | .degraded => true
  | .draining => true
  | .faulted => true

/-- The cue reserve of a slot that holds the cue pool, 0 for any other. -/
def Device.cueReserve (d : Device) (t : Slot) : Nat :=
  match (d.track t).text with
  | none => 0
  | some x => if (d.track t).state.holdsPool then x.settings.reserve else 0

/-- What the other TEXT tracks are still owed under their reserves (R80). -/
def Device.cuesOwed (d : Device) (t : Slot) : Nat :=
  ((allSlots.filter fun u => u != t).map fun u => d.cueReserve u - (d.trackCues u).length).sum

/-- held(t), reserve(t) and the free count of the cue pool (R79). -/
def Device.cueFigures (d : Device) (t : Slot) (reserve : Nat) : PoolFigures :=
  ⟨(d.trackCues t).length, reserve, Config.cuePoolSize - d.cuesInUse⟩

/-- The entry that step 6 allocates: the lowest-numbered free one, if a condition of R80 holds. -/
def Device.allocateCue (d : Device) (t : Slot) (reserve : Nat) : Option Nat :=
  if (d.trackCues t).length < reserve ∨ d.cuesOwed t < Config.cuePoolSize - d.cuesInUse then
    lowestFree 0 d.cuePool.toList
  else none

/-! ## The decision -/

/-- What the intake steps come to: a drop with its report, a damaged entry found, or an acceptance. An acceptance gives
the entry's number, the entry, and the other ACTIVE cues as the gap rule has left them with the number of its moves.
`adjusted` says whether step 2 adjusted a timecode. -/
inductive CueDecision where
  | dropped (adjusted : Bool) (drop : CueDrop)
  | damaged (entry : Nat)
  | accepted (adjusted : Bool) (number : Nat) (entry : CueEntry) (others : List (Nat × CueEntry)) (moves : Nat)
  deriving DecidableEq, Repr

/-- A drop without the items that are present for some reasons only (R90). -/
def CueDrop.plain (reason : DropReason) (detail : DropDetail) (n : Nat) (r : CueRecord) : CueDrop :=
  ⟨reason, detail, n, r.hostId, none, CueFlags.noFlags, none, none, none⟩

/-- Steps 7 to 10 of a cue of relative frames `start` to `stop`, with an entry allocated (R82 to R86). -/
def placeCue (d : Device) (t : Slot) (x : TextTrack) (n : Nat) (r : CueRecord) (adjusted : Bool) (number start stop : Nat)
    (flags : CueFlags) : CueDecision :=
  let cues := d.activeCues t
  let candidates := candidateRows r.anchor r.anchorRow r.height
  match placeRow cues start stop r.height candidates with
  | none =>
    .dropped adjusted
      { CueDrop.plain .noRoom .none n r with
        times := some ⟨start, stop, false⟩
        flags := { flags with moved := r.clampedRow }
        heightAnchor := some (r.height, r.anchor) }
  | some row =>
    let (others, moves) :=
      closeGaps x.settings.minGap x.openStart start row r.height (cues.map Prod.fst) cues 0
    .accepted adjusted number
      { track := t
        intakeSlot := n
        hostId := r.hostId
        start := start
        stop := stop
        row := row
        height := r.height
        style := r.style
        flags :=
          { flags with
            moved := r.clampedRow || decide (candidates.head? ≠ some row)
            overrate := overRate x.settings.rate.code x.settings.cps (characters r.text) (stop - start)
            overwidth := (textLines r.text).any fun l => decide (x.settings.columns < characters l) }
        arrival := x.nextArrival
        status := .active
        parityOk := true }
      others moves

/-- Steps 5 to 10 of a cue whose late check has left it these relative frames (R78, R80). -/
def extendCue (d : Device) (t : Slot) (x : TextTrack) (n : Nat) (r : CueRecord) (adjusted lateShifted : Bool)
    (start stop : Nat) : CueDecision :=
  let short := decide (stop - start < x.settings.minDuration)
  let newStop := if short then start + x.settings.minDuration else stop
  let flags := { CueFlags.noFlags with lateShifted := lateShifted, extended := short }
  match d.allocateCue t x.settings.reserve with
  | none =>
    .dropped adjusted
      { CueDrop.plain .pool .none n r with
        times := some ⟨start, newStop, false⟩
        flags := flags
        pool := some (d.cueFigures t x.settings.reserve) }
  | some number =>
    match d.damagedActive t with
    | some i => .damaged i
    | none => placeCue d t x n r adjusted number start newStop flags

/-- Steps 4 to 10 of a cue of relative frames `start` to `stop` (R77). -/
def lateCheckCue (d : Device) (t : Slot) (x : TextTrack) (n : Nat) (r : CueRecord) (adjusted : Bool)
    (start stop : Nat) : CueDecision :=
  if x.openStart ≤ start then extendCue d t x n r adjusted false start stop
  else if x.openStart < stop ∧ x.tuning.late = .shift then extendCue d t x n r adjusted true x.openStart stop
  else
    .dropped adjusted
      { CueDrop.plain .late .none n r with
        times := some ⟨start, stop, false⟩
        openStart := some x.openStart }

/-- Steps 2 to 10 of a cue whose record is valid (R75, R76). -/
def convertCue (d : Device) (t : Slot) (x : TextTrack) (n : Nat) (r : CueRecord) : CueDecision :=
  let rate := x.settings.rate
  let adjusted := r.start.isDropped rate.code rate.dropFrame || r.stop.isDropped rate.code rate.dropFrame
  let a := r.start.frames rate.code rate.dropFrame
  let b := r.stop.frames rate.code rate.dropFrame
  if b ≤ a then .dropped adjusted (CueDrop.plain .malformed .order n r)
  else if b ≤ rate.origin then
    .dropped adjusted { CueDrop.plain .malformed .beforeOrigin n r with times := some ⟨a, b, true⟩ }
  else if beyondLimit rate.code (rate.relative r.stop) then
    .dropped adjusted { CueDrop.plain .malformed .timecode n r with times := some ⟨a, b, true⟩ }
  else lateCheckCue d t x n r adjusted (a - rate.origin) (b - rate.origin)

/-- The ten steps of R73. -/
def decideCue (d : Device) (t : Slot) (x : TextTrack) (n : Nat) (r : CueRecord) : CueDecision :=
  match r.invalid x.settings.rate.code with
  | some detail => .dropped false (CueDrop.plain .malformed detail n r)
  | none => convertCue d t x n r

/-! ## Acting on the decision -/

/-- The counts of a dropped cue (R90, R91). -/
def TextCounters.cueDropped (c : TextCounters) (reason : DropReason) (adjusted : Bool) : TextCounters :=
  { c with
    captured := satAdd c.captured 1
    timecodeAdjusted := countIf adjusted c.timecodeAdjusted
    droppedMalformed := countIf (reason == .malformed) c.droppedMalformed
    droppedLate := countIf (reason == .late) c.droppedLate
    droppedNoRoom := countIf (reason == .noRoom) c.droppedNoRoom
    droppedPool := countIf (reason == .pool) c.droppedPool
    droppedDraining := countIf (reason == .draining) c.droppedDraining }

/-- The counts of an accepted cue, with the number of gap closures it made (R84, R91). -/
def TextCounters.cueAccepted (c : TextCounters) (f : CueFlags) (adjusted : Bool) (moves : Nat) : TextCounters :=
  { c with
    captured := satAdd c.captured 1
    accepted := satAdd c.accepted 1
    timecodeAdjusted := countIf adjusted c.timecodeAdjusted
    lateShifted := countIf f.lateShifted c.lateShifted
    extended := countIf f.extended c.extended
    moved := countIf f.moved c.moved
    overrate := countIf f.overrate c.overrate
    overwidth := countIf f.overwidth c.overwidth
    gapClosures := satAdd c.gapClosures moves }

/-- The horizon after a cue of this start is accepted (R87). -/
def raiseTo (start : Nat) : Option Nat → Option Nat
  | none => some start
  | some h => some (max h start)

/-- The track's intake state after a cue is accepted (R86, R87, R91). -/
def TextTrack.cueAccepted (x : TextTrack) (e : CueEntry) (adjusted : Bool) (moves : Nat) : TextTrack :=
  { x with
    horizon := raiseTo e.start x.horizon
    nextArrival := x.nextArrival + 1
    counters := x.counters.cueAccepted e.flags adjusted moves }

/-- A cue is dropped: it is counted and CUE DROPPED is posted (R90). -/
def Device.dropCue (d : Device) (t : Slot) (x : TextTrack) (adjusted : Bool) (drop : CueDrop) : Device :=
  (d.setText t { x with counters := x.counters.cueDropped drop.reason adjusted }).post (.cueDropped t drop)

/-- A cue is accepted: the pool takes it and the moves of the gap rule, and a RUNNING track makes a close decision
(R86, R87, R96). -/
def Device.acceptCue (d : Device) (t : Slot) (x : TextTrack) (adjusted : Bool) (number : Nat) (e : CueEntry)
    (others : List (Nat × CueEntry)) (moves : Nat) : Device :=
  let a : Device :=
    { d.setText t (x.cueAccepted e adjusted moves) with
      cuePool := (writeCues d.cuePool others).setIfInBounds number (some e) }
  if (d.track t).state = .running then a.decideClose t d else a

/-- A capture is decided by the ten steps (R73, R92). -/
def Device.takeCue (d : Device) (t : Slot) (x : TextTrack) (n : Nat) (r : CueRecord) : Device :=
  match decideCue d t x n r with
  | .dropped adjusted drop => d.dropCue t x adjusted drop
  | .damaged i => d.tellMonitor .cue i
  | .accepted adjusted number e others moves => d.acceptCue t x adjusted number e others moves

/-- A captured record of a TEXT intake ring (R71). The slot's body is looked at before its parity is checked:
DESIGN CHOICE (unsafe, log entry 37). -/
def Device.captureCue (d : Device) (t : Slot) (n : Nat) (r : CueRecord) : Device :=
  match (d.track t).text with
  | none => d
  | some x =>
    d.readingTrack t fun c =>
      match c.state with
      | .free => d
      | .loading => d
      | .running => d.takeCue t x n r
      | .stalled => d.takeCue t x n r
      | .degraded => d
      | .draining => d.dropCue t x false (CueDrop.plain .draining .none n r)
      | .faulted => d

/-- A partial write into a TEXT intake ring (R72). The slot's body is looked at before its parity is checked:
DESIGN CHOICE (unsafe, log entry 37). -/
def Device.partialCueWrite (d : Device) (t : Slot) : Device :=
  match (d.track t).text with
  | none => d
  | some x =>
    d.readingTrack t fun c =>
      if c.state.consumes then
        d.setText t { x with counters := { x.counters with partialWrites := satAdd x.counters.partialWrites 1 } }
      else d

end Sys2Proof.Machine
end

