-- ==== Sys2Proof/Machine/Gain.lean ====
section
/-! DEFINITION. Level metering and duck gain (spec 08): the meter's blocks, the resolution of a clip's gain, and the envelope. -/

namespace Sys2Proof.Machine

open Sys2Proof

/-! ## The meter (R128 to R131) -/

/-- The meter at the entry into RUNNING (R128). -/
def Meter.begun : Meter :=
  ⟨[], 0, 0, .shallow⟩

/-- `n` zero sums of the blocks from `j` on (R130 step 2). -/
def zeroBlocks (j : Nat) : Nat → List (Nat × Nat)
  | 0 => []
  | n + 1 => (j, 0) :: zeroBlocks (j + 1) n

/-- The last ten sums of a history (R130 step 3). -/
def lastSums (h : List (Nat × Nat)) : List (Nat × Nat) :=
  h.drop (h.length - Config.meterHistory)

/-- The meter after the cursor has advanced to `pos`: the blocks that end at or before it are completed (R130). Of the
blocks skipped whole only the last ten are added, since older ones would be dropped. -/
def Meter.advanced (m : Meter) (pos : Nat) : Meter :=
  let j := pos / Config.meterBlock
  if m.block < j then
    let skipped := min (j - m.block - 1) Config.meterHistory
    { m with
      history := lastSums (m.history ++ (m.block, m.accumulator) :: zeroBlocks (j - skipped) skipped)
      block := j
      accumulator := 0 }
  else m

/-- The meter's addend of a frame: the magnitudes of its two programme samples (R129). -/
def Meter.added (m : Meter) (left right : Int) : Meter :=
  { m with accumulator := m.accumulator + left.natAbs + right.natAbs }

/-- Lvl (R131). -/
def Meter.level (m : Meter) : Nat :=
  if m.history.length = 0 then 0
  else (m.history.map Prod.snd).sum / (2 * Config.meterBlock * m.history.length)

/-! ## Resolution (R132 to R135) -/

/-- The fast decision at a level (R134). -/
def fastDecision (c : ClipSettings) (level : Nat) (last : FastDecision) : FastDecision :=
  if c.fastThreshold + c.fastBand < level then .deep
  else if (level : Int) < (c.fastThreshold : Int) - (c.fastBand : Int) then .shallow
  else last

/-- The preset of a fast decision (R134). -/
def ClipSettings.preset (c : ClipSettings) : FastDecision → Nat
  | .deep => c.deepPreset
  | .shallow => c.shallowPreset

/-- A value clamped into the range from the gain floor to U (R135). -/
def clampGain (floor : Nat) (v : Int) : Int :=
  max (floor : Int) (min (Config.unity : Int) v)

/-- raw of R135 step 1. -/
def fullRaw (c : ClipSettings) (level : Nat) : Nat :=
  if level = 0 then Config.unity else c.fullTarget * 32768 / level

/-- g of R135 step 3. -/
def fullTrimmed (c : ClipSettings) (level : Nat) : Int :=
  clampGain c.gainFloor (fullRaw c level : Int) + c.trim * 256

/-- The gain that AUTO FULL resolves to (R135 step 4). -/
def fullGain (c : ClipSettings) (level : Nat) : Nat :=
  (clampGain c.gainFloor (fullTrimmed c level)).toNat

/-- Whether an AUTO FULL resolution ends at the gain floor (R142, log entry 23). -/
def fullFloored (c : ClipSettings) (level : Nat) : Bool :=
  decide (fullGain c level = c.gainFloor)

/-- The three ways in which a gain is resolved (R132). -/
inductive Resolution where
  | fixed (gain : Nat)
  | fast
  | full
  deriving DecidableEq, Repr

/-- The way in which a clip resolves: its duck mode, with the substitution of DEFAULT (R132, R133). -/
def resolutionOf (c : ClipSettings) (e : ClipEntry) : Resolution :=
  match e.mode with
  | .fixed => .fixed e.fixedGain
  | .trackDefault =>
    match c.defaultMode with
    | .fixed => .fixed c.defaultGain
    | .trackDefault => .fixed c.defaultGain
    | .autoFast => .fast
    | .autoFull => .full
  | .autoFast => .fast
  | .autoFull => .full

/-- The counts of a resolution that came to this decision, at `n` sums in the history (R142). -/
def ClipCounters.resolved (k : ClipCounters) (c : ClipSettings) (m : Meter) (how : Resolution) : ClipCounters :=
  match how with
  | .fixed _ => { k with resolvedFixed := satAdd k.resolvedFixed 1 }
  | .fast =>
    let deep := decide (fastDecision c m.level m.decision = .deep)
    { k with
      resolvedDeep := countIf deep k.resolvedDeep
      resolvedShallow := countIf (!deep) k.resolvedShallow
      unmetered := countIf m.history.isEmpty k.unmetered }
  | .full =>
    { k with
      resolvedFull := satAdd k.resolvedFull 1
      floorClamps := countIf (fullFloored c m.level) k.floorClamps
      unmetered := countIf m.history.isEmpty k.unmetered }

/-- The gain of a resolution (R133, R134, R135). -/
def resolvedGain (c : ClipSettings) (m : Meter) : Resolution → Nat
  | .fixed g => g
  | .fast => c.preset (fastDecision c m.level m.decision)
  | .full => fullGain c m.level

/-- The meter after a resolution: AUTO FAST alone changes the last fast decision (R134). -/
def Meter.afterResolution (m : Meter) (c : ClipSettings) : Resolution → Meter
  | .fixed _ => m
  | .fast => { m with decision := fastDecision c m.level m.decision }
  | .full => m

/-! ## The envelope (R137 to R139) -/

/-- env(t) of a clip of resolved gain `g` under a tail of `tail` ticks (R137). -/
def envelope (e : ClipEntry) (tail g t : Nat) : Nat :=
  if t + e.lead < e.start then Config.unity
  else if t < e.start then Config.unity - (Config.unity - g) * (t + e.lead - e.start) / e.lead
  else if t < e.stop then g
  else if t < e.stop + tail then g + (Config.unity - g) * (t - e.stop) / tail
  else Config.unity

/-- The gain that one clip of the schedule gives at `t`: its envelope while it is ACTIVE or RELEASING, U while it is WAITING
(R139). -/
def ClipEntry.gainAt (e : ClipEntry) (tail t : Nat) : Nat :=
  match e.state, e.gain with
  | .waiting, _ => Config.unity
  | .active, some g => envelope e tail g t
  | .active, none => Config.unity
  | .releasing, some g => envelope e tail g t
  | .releasing, none => Config.unity

/-- The duck gain of a schedule at `t` (R139). -/
def duckGain (tail t : Nat) (clips : List (Nat × ClipEntry)) : Nat :=
  clips.foldl (fun g c => min g (c.2.gainAt tail t)) Config.unity

/-- The playing clip at `t`: the clip of the schedule whose [s, e) holds it (R140). -/
def playingClip (t : Nat) (clips : List (Nat × ClipEntry)) : Option (Nat × ClipEntry) :=
  clips.find? fun c => decide (c.2.start ≤ t) && decide (t < c.2.stop)

end Sys2Proof.Machine
end

