-- ==== Sys2Proof/Machine/Clips.lean ====
section
/-! DEFINITION. Description clip scheduling (spec 07): the five intake steps of a captured clip record, the shift cascade, the
clip states and retirement. -/

namespace Sys2Proof.Machine

open Sys2Proof

/-! ## Step 1 (R117, R118) -/

/-- The level code that stands for the track's default (spec 12 section 12.2). -/
def defaultLevelCode : Nat := 0xFFFF

/-- The first check of R117 that a clip record fails. -/
def ClipRecord.invalid (r : ClipRecord) : Option DropDetail :=
  if r.kind ≠ 2 then some .kind
  else if r.duration = 0 ∨ 4800000 < r.duration then some .duration
  else if r.address.toNat % 2 = 1 ∨ 1099511627776 < r.address.toNat + 2 * r.duration then some .address
  else if Config.unity < r.level ∧ r.level ≠ defaultLevelCode then some .level
  else if duckModeOf r.mode = none then some .mode
  else if duckModeOf r.mode = some .fixed ∧ Config.unity < r.fixedGain then some .gain
  else none

/-- The description level that the pool entry holds (R117). -/
def ClipRecord.dg (r : ClipRecord) (c : ClipSettings) : Nat :=
  if r.level = defaultLevelCode then c.defaultLevel else r.level

/-- T, the tail in ticks (R69). -/
def ClipSettings.tailTicks (c : ClipSettings) : Nat :=
  msTicks c.tail

/-- L, the lead in ticks (R69). -/
def ClipSettings.leadTicks (c : ClipSettings) : Nat :=
  msTicks c.lead

/-- Whether a start timecode in range is one of a dropped label (R58, R118). -/
def ClipRecord.isAdjusted (r : ClipRecord) (c : ClipSettings) : Bool :=
  r.start.isDropped c.rate.code c.rate.dropFrame

/-- The requested start tick of a clip whose start is not before the origin (R118). -/
def ClipRecord.requested (r : ClipRecord) (c : ClipSettings) : Nat :=
  ticks c.rate.code (c.rate.relative r.start).toNat

/-- The check of R118 that a clip's times fail: a field, the origin, or the timeline limit. -/
def ClipRecord.badTimes (r : ClipRecord) (c : ClipSettings) : Option DropDetail :=
  if r.start.outOfRange c.rate.code then some .timecode
  else if c.rate.relative r.start < 0 then some .beforeOrigin
  else if Config.timelineLimit < r.requested c + r.duration + c.tailTicks then some .timecode
  else none

/-! ## Step 3: the pool (R121) -/

/-- Entries of the clip pool in use. -/
def Device.clipsInUse (d : Device) : Nat :=
  (poolEntries 0 d.clipPool.toList).length

/-- The clip reserve of a slot that holds the clip pool, 0 for any other. -/
def Device.clipReserve (d : Device) (t : Slot) : Nat :=
  match (d.track t).clips with
  | none => 0
  | some x => if (d.track t).state.holdsPool then x.settings.reserve else 0

/-- What the other DESCRIPTION tracks are still owed under their reserves (R121). -/
def Device.clipsOwed (d : Device) (t : Slot) : Nat :=
  ((allSlots.filter fun u => u != t).map fun u => d.clipReserve u - (d.trackClips u).length).sum

/-- held(t), reserve(t) and the free count of the clip pool (R120). -/
def Device.clipFigures (d : Device) (t : Slot) (reserve : Nat) : PoolFigures :=
  ⟨(d.trackClips t).length, reserve, Config.clipPoolSize - d.clipsInUse⟩

/-- The entry that step 3 allocates: the lowest-numbered free one, if a condition of R121 holds. -/
def Device.allocateClip (d : Device) (t : Slot) (reserve : Nat) : Option Nat :=
  if (d.trackClips t).length < reserve ∨ d.clipsOwed t < Config.clipPoolSize - d.clipsInUse then
    lowestFree 0 d.clipPool.toList
  else none

/-! ## Steps 4 and 5: the schedule (R122, R123) -/

/-- A clip moved later to start at a tick, flagged SHIFTED (R122). -/
def ClipEntry.movedTo (e : ClipEntry) (s : Nat) : ClipEntry :=
  { e with start := s, stop := s + (e.stop - e.start), shifted := true }

/-- The cascade over the clips after the new one (R122 step 3), each against the end before it: the clips moved, or the
clip that could not be. -/
def cascade : Nat → List (Nat × ClipEntry) → Except ClipEntry (List (Nat × ClipEntry))
  | _, [] => .ok []
  | before, (i, y) :: rest =>
    if y.start < before then
      if y.state = .waiting then
        match cascade (y.movedTo before).stop rest with
        | .error e => .error e
        | .ok moved => .ok ((i, y.movedTo before) :: moved)
      else .error y
    else .ok []

/-- The new clip after its own shift: it starts where its predecessor on the schedule ends (R122 steps 1 and 2). -/
def ownShift (clips : List (Nat × ClipEntry)) (x : ClipEntry) : ClipEntry :=
  match (clips.filter fun c => decide (c.2.start ≤ x.start)).getLast? with
  | none => x
  | some p => if x.start < p.2.stop then x.movedTo p.2.stop else x

/-- How a placement comes out (R122). -/
inductive Placement where
  | placed (x : ClipEntry) (moved : List (Nat × ClipEntry))
  | collision (blocker : ClipEntry)
  | outOfRange
  deriving DecidableEq, Repr

/-- Step 4: the new clip on the schedule (R122). The clips after its position are those of a later start than it requested. -/
def placeClip (clips : List (Nat × ClipEntry)) (x : ClipEntry) (tail : Nat) : Placement :=
  let y := ownShift clips x
  match cascade y.stop (clips.filter fun c => decide (x.start < c.2.start)) with
  | .error b => .collision b
  | .ok moved =>
    if (y.shifted && decide (Config.timelineLimit < y.stop + tail)) ||
        moved.any fun m => decide (Config.timelineLimit < m.2.stop + tail)
    then .outOfRange
    else .placed y moved

/-- Step 5: the effective lead of a clip under the track's lead `full`, at cursor `c` (R123). -/
def ClipEntry.withLead (e : ClipEntry) (full c : Nat) : ClipEntry :=
  if c + full ≤ e.start then { e with lead := full, leadClipped := false }
  else { e with lead := e.start - c, leadClipped := true }

/-! ## The decision (R116) -/

/-- What the intake steps come to: a drop with its report, a damaged entry found, or an acceptance with the entry's number,
the entry and the clips that its cascade moved. -/
inductive ClipDecision where
  | dropped (adjusted : Bool) (drop : ClipDrop)
  | damaged (entry : Nat)
  | accepted (adjusted : Bool) (number : Nat) (entry : ClipEntry) (moved : List (Nat × ClipEntry))
  deriving DecidableEq, Repr

/-- A drop without the items that are present for some reasons only (R127). -/
def ClipDrop.plain (reason : DropReason) (detail : DropDetail) (n : Nat) (r : ClipRecord) : ClipDrop :=
  ⟨reason, detail, n, r.hostId, none, none, none, none⟩

/-- The number of the lowest-numbered clip of a track that fails its parity check (R126, R136, R157). -/
def Device.damagedClip (d : Device) (t : Slot) : Option Nat :=
  ((d.trackClips t).find? fun x => !x.2.parityOk).map Prod.fst

/-- The entry that step 3 fills for a clip (R121). -/
def ClipRecord.entry (r : ClipRecord) (c : ClipSettings) (t : Slot) (n : Nat) : ClipEntry :=
  { track := t
    intakeSlot := n
    hostId := r.hostId
    start := r.requested c
    stop := r.requested c + r.duration
    lead := 0
    address := r.address
    level := r.dg c
    mode := (duckModeOf r.mode).getD .fixed
    fixedGain := r.fixedGain
    gain := none
    shifted := false
    leadClipped := false
    state := .waiting
    parityOk := true }

/-- Steps 4 and 5 of a clip with an entry allocated (R122, R123). -/
def scheduleClip (d : Device) (t : Slot) (x : ClipTrack) (n : Nat) (r : ClipRecord) (number : Nat) : ClipDecision :=
  let c := x.settings
  let e := r.entry c t n
  let adjusted := r.isAdjusted c
  match placeClip (d.schedule t) e c.tailTicks with
  | .collision b =>
    .dropped adjusted
      { ClipDrop.plain .late .collision n r with
        times := some (e.start, e.stop)
        cursor := some x.cursor
        blocker := some (b.hostId, b.start) }
  | .outOfRange =>
    .dropped adjusted { ClipDrop.plain .malformed .range n r with times := some (e.start, e.stop) }
  | .placed y moved =>
    .accepted adjusted number (y.withLead c.leadTicks x.cursor)
      (moved.map fun m => (m.1, m.2.withLead c.leadTicks x.cursor))

/-- The five steps of R116. -/
def decideClip (d : Device) (t : Slot) (x : ClipTrack) (n : Nat) (r : ClipRecord) : ClipDecision :=
  let c := x.settings
  match r.invalid with
  | some detail => .dropped false (ClipDrop.plain .malformed detail n r)
  | none =>
    match r.badTimes c with
    | some detail =>
      .dropped (!r.start.outOfRange c.rate.code && r.isAdjusted c) (ClipDrop.plain .malformed detail n r)
    | none =>
      let e := r.entry c t n
      if e.start < x.cursor then
        .dropped (r.isAdjusted c)
          { ClipDrop.plain .late .none n r with times := some (e.start, e.stop), cursor := some x.cursor }
      else
        match d.allocateClip t c.reserve with
        | none =>
          .dropped (r.isAdjusted c)
            { ClipDrop.plain .pool .none n r with
              times := some (e.start, e.stop)
              pool := some (d.clipFigures t c.reserve) }
        | some number =>
          match d.damagedClip t with
          | some i => .damaged i
          | none => scheduleClip d t x n r number

/-! ## Acting on the decision (R127) -/

/-- The counts of a dropped clip (R127). -/
def ClipCounters.clipDropped (k : ClipCounters) (drop : ClipDrop) (adjusted : Bool) : ClipCounters :=
  { k with
    captured := satAdd k.captured 1
    timecodeAdjusted := countIf adjusted k.timecodeAdjusted
    droppedMalformed := countIf (drop.reason == .malformed) k.droppedMalformed
    droppedLate := countIf (drop.reason == .late) k.droppedLate
    droppedPool := countIf (drop.reason == .pool) k.droppedPool
    droppedDraining := countIf (drop.reason == .draining) k.droppedDraining
    collisions := countIf (drop.detail == .collision) k.collisions }

/-- The counts of an accepted clip that moved this many others (R127). -/
def ClipCounters.clipAccepted (k : ClipCounters) (adjusted : Bool) (moves : Nat) : ClipCounters :=
  { k with
    captured := satAdd k.captured 1
    accepted := satAdd k.accepted 1
    timecodeAdjusted := countIf adjusted k.timecodeAdjusted
    cascadeShifts := satAdd k.cascadeShifts moves }

/-- The clip pool with these entries written over it. -/
def writeClips (pool : Vector (Option ClipEntry) 64) (clips : List (Nat × ClipEntry)) : Vector (Option ClipEntry) 64 :=
  clips.foldl (fun p c => p.setIfInBounds c.1 (some c.2)) pool

/-- A clip is dropped: it is counted and CLIP DROPPED is posted (R127). -/
def Device.dropClip (d : Device) (t : Slot) (x : ClipTrack) (adjusted : Bool) (drop : ClipDrop) : Device :=
  (d.setClips t { x with counters := x.counters.clipDropped drop adjusted }).post (.clipDropped t drop)

/-- A clip joins the schedule with the moves of its cascade (R122). -/
def Device.acceptClip (d : Device) (t : Slot) (x : ClipTrack) (adjusted : Bool) (number : Nat) (e : ClipEntry)
    (moved : List (Nat × ClipEntry)) : Device :=
  { d.setClips t { x with counters := x.counters.clipAccepted adjusted moved.length } with
    clipPool := (writeClips d.clipPool moved).setIfInBounds number (some e) }

/-! ## Clip states and retirement (R124, R125) -/

/-- What the lane works on while it processes frames: its track and the clip pool. -/
structure LaneWork where
  x : ClipTrack
  pool : Vector (Option ClipEntry) 64
  deriving DecidableEq, Repr

/-- The schedule of a track in a clip pool (R122). -/
def scheduleIn (t : Slot) (pool : Vector (Option ClipEntry) 64) : List (Nat × ClipEntry) :=
  ((poolEntries 0 pool.toList).filter fun x => x.2.track == t).foldl
    (fun l x => insertBy (fun a b => decide (a.2.start < b.2.start)) x l) []

/-- A clip becomes ACTIVE: its gain is resolved once (R124, R132). -/
def LaneWork.activate (w : LaneWork) (i : Nat) (e : ClipEntry) : LaneWork :=
  let how := resolutionOf w.x.settings e
  { x :=
      { w.x with
        meter := w.x.meter.afterResolution w.x.settings how
        counters := w.x.counters.resolved w.x.settings w.x.meter how }
    pool :=
      w.pool.setIfInBounds i
        (some { e with state := .active, gain := some (resolvedGain w.x.settings w.x.meter how) }) }

/-- A clip becomes RELEASING (R124). -/
def LaneWork.release (w : LaneWork) (i : Nat) : LaneWork :=
  match (w.pool[i]?).join with
  | none => w
  | some e => { w with pool := w.pool.setIfInBounds i (some { e with state := .releasing }) }

/-- The state changes of one clip of the schedule at a processed frame (R124). -/
def LaneWork.changeClip (p : Nat) (w : LaneWork) (c : Nat × ClipEntry) : LaneWork :=
  let started := if c.2.state = .waiting ∧ c.2.start ≤ p + c.2.lead then w.activate c.1 c.2 else w
  if (c.2.state = .active ∨ (c.2.state = .waiting ∧ c.2.start ≤ p + c.2.lead)) ∧ c.2.stop ≤ p then started.release c.1
  else started

/-- The clip state changes at a processed frame, in schedule order (R124, R132). -/
def LaneWork.changeClips (t : Slot) (p : Nat) (w : LaneWork) : LaneWork :=
  (scheduleIn t w.pool).foldl (LaneWork.changeClip p) w

/-- The counts of a retired clip (R125). -/
def ClipCounters.clipRetired (k : ClipCounters) (e : ClipEntry) : ClipCounters :=
  { k with
    retired := satAdd k.retired 1
    skipped := countIf (e.state == .waiting) k.skipped
    shifted := countIf e.shifted k.shifted
    leadClipped := countIf e.leadClipped k.leadClipped }

/-- One clip of the schedule, retired if the cursor is at or above its e + T (R124, R125). -/
def LaneWork.retireClip (pos : Nat) (w : LaneWork) (c : Nat × ClipEntry) : LaneWork :=
  if c.2.stop + w.x.settings.tailTicks ≤ pos then
    { x := { w.x with counters := w.x.counters.clipRetired c.2 }
      pool := w.pool.setIfInBounds c.1 none }
  else w

/-- The clips whose e + T is at or below a cursor position become DONE and are retired in schedule order (R125). -/
def LaneWork.retireClips (t : Slot) (pos : Nat) (w : LaneWork) : LaneWork :=
  (scheduleIn t w.pool).foldl (LaneWork.retireClip pos) w

end Sys2Proof.Machine
end

