-- ==== Sys2Proof/Machine/Mixer.lean ====
section
/-! DEFINITION. The inline mixer (spec 09): the mapping of a burst, the processing of its frames, the staging buffer and the
sample reads, and the offering, holding and answering of a burst. -/

namespace Sys2Proof.Machine

open Sys2Proof

/-! ## From ring frame to timeline position (R144) -/

/-- Rf, the audio frames of the mix ring (R144). -/
def ClipSettings.ringFrames (c : ClipSettings) : Nat :=
  c.mixSize / 4

/-- The first ring frame f0 of a burst (R144). -/
def ClipSettings.firstFrame (c : ClipSettings) (addr : Addr) : Nat :=
  (addr.toNat - c.mixBase.toNat) / 4

/-- The first position p0: the one number congruent to f0 modulo Rf in [C − Rf/2, C + Rf/2) (R144). -/
def mapFirst (rf cursor f0 : Nat) : Int :=
  ((cursor : Int) - (rf / 2 : Nat)) + ((f0 : Int) - ((cursor : Int) - (rf / 2 : Nat))) % (rf : Int)

/-- Whether a burst of `frames` frames mapped to `p0` is a revisit (R144). -/
def isRevisit (cursor frames : Nat) (p0 : Int) : Bool :=
  decide (p0 < (cursor : Int)) || decide ((Config.lastPosition : Int) < p0 + (frames : Int) - 1)

/-! ## Full and partial beats (R147) -/

/-- Whether a beat is full (R147). -/
def isFullBeat (b : Beat) : Bool :=
  b.strobes == 255

/-- The positions of the frames of the full beats of a burst that begins at `p` (R147). -/
def fullPositions : Nat → List Beat → List Nat
  | _, [] => []
  | p, b :: bs => (if isFullBeat b then [p, p + 1] else []) ++ fullPositions (p + 2) bs

/-- The clips of a schedule that are WAITING or ACTIVE (R147, R149). -/
def soundingClips (clips : List (Nat × ClipEntry)) : List (Nat × ClipEntry) :=
  clips.filter fun c => c.2.state != .releasing

/-- The needed samples of a burst: clip entry number and sample index (R147). -/
def neededSamples (clips : List (Nat × ClipEntry)) (p : Nat) (beats : List Beat) : List (Nat × Nat) :=
  (fullPositions p beats).filterMap fun q =>
    (playingClip q (soundingClips clips)).map fun c => (c.1, q - c.2.start)

/-! ## The mix (R156, R157) -/

/-- The 16-bit sample of a channel: channel `i` of the four that a beat holds, in address order (spec 00 section 2.6). -/
def sampleAt (w : Word) (i : Nat) : Int :=
  (w.extractLsb' (16 * i) 16).toInt

/-- y of R156. The divisor is positive, so `/` rounds towards minus infinity. -/
def mixValue (x g d dg : Int) : Int :=
  (x * g + d * dg + 16384) / 32768

/-- A result limited to the range of a sample (R156). -/
def limitSample (y : Int) : Int :=
  max (-32768) (min 32767 y)

/-- Whether a result is limited (R156). -/
def isLimited (y : Int) : Bool :=
  decide (32767 < y) || decide (y < -32768)

/-- The 32 bits of an audio frame, left sample lowest (spec 00 section 2.6). -/
def packFrame (left right : Int) : BitVec 32 :=
  BitVec.ofInt 16 right ++ BitVec.ofInt 16 left

/-- Whether a sample of a clip is staged (R149). -/
def ClipTrack.isStaged (x : ClipTrack) (i k : Nat) : Bool :=
  x.staged.any fun s => s.clip == i && s.index == k

/-- The description sample d and the level dg of a frame, and the track after the sample is used and the PARITY flag is
set (R148 step 4, R157). -/
def ClipTrack.takeSample (x : ClipTrack) (playing : Option (Nat × ClipEntry)) (p : Nat) : Int × Nat × ClipTrack :=
  match playing with
  | none => (0, 0, x)
  | some c =>
    match x.staged.find? fun s => s.clip == c.1 && s.index == p - c.2.start with
    | none => (0, 0, x)
    | some s =>
      let y := { x with staged := x.staged.filter fun u => !(u.clip == c.1 && u.index == p - c.2.start) }
      if s.parityOk then (if s.errorMark then 0 else s.value.toInt, c.2.level, y)
      else (0, c.2.level, { y with counters := { y.counters with parityFlag := true } })

/-- The counts after the two channels of a frame are formed (R156). -/
def ClipCounters.limited (k : ClipCounters) (l r : Int) : ClipCounters :=
  { k with saturated := countIf (isLimited r) (countIf (isLimited l) k.saturated) }

/-- A full-beat frame at the cursor is mixed (R148 step 4, R156). -/
def LaneWork.mixFrame (t : Slot) (left right : Int) (w : LaneWork) : LaneWork × BitVec 32 :=
  let p := w.x.cursor
  let clips := scheduleIn t w.pool
  let g := duckGain w.x.settings.tailTicks p clips
  let (d, dg, y) := w.x.takeSample (playingClip p clips) p
  let l := mixValue left g d dg
  let r := mixValue right g d dg
  ({ w with x := { y with counters := y.counters.limited l r } }, packFrame (limitSample l) (limitSample r))

/-! ## Processing (R146, R148) -/

/-- Steps 1 and 2 of a frame (R148, R130). -/
def LaneWork.beginFrame (t : Slot) (w : LaneWork) : LaneWork :=
  LaneWork.changeClips t w.x.cursor { w with x := { w.x with meter := w.x.meter.advanced w.x.cursor } }

/-- Step 3 of a frame in a full beat (R148, R129). -/
def LaneWork.meterFrame (left right : Int) (w : LaneWork) : LaneWork :=
  { w with x := { w.x with meter := w.x.meter.added left right } }

/-- The cursor advances to a position: the blocks that end by it complete, and the clips whose e + T is by it retire
(R130, R125). -/
def LaneWork.advanceTo (t : Slot) (pos : Nat) (w : LaneWork) : LaneWork :=
  LaneWork.retireClips t pos { w with x := { w.x with cursor := pos, meter := w.x.meter.advanced pos } }

/-- A frame of a full beat (R148). -/
def LaneWork.fullFrame (t : Slot) (left right : Int) (w : LaneWork) : LaneWork × BitVec 32 :=
  let m := ((w.beginFrame t).meterFrame left right).mixFrame t left right
  (m.1.advanceTo t (m.1.x.cursor + 1), m.2)

/-- A frame of a partial beat (R147, R148). -/
def LaneWork.partialFrame (t : Slot) (w : LaneWork) : LaneWork :=
  let m := w.beginFrame t
  m.advanceTo t (m.x.cursor + 1)

/-- The two frames of a beat, and the beat to be written (R147, R148). -/
def LaneWork.beat (t : Slot) (b : Beat) (w : LaneWork) : LaneWork × Beat :=
  if isFullBeat b then
    let f0 := w.fullFrame t (sampleAt b.data 0) (sampleAt b.data 1)
    let f1 := f0.1.fullFrame t (sampleAt b.data 2) (sampleAt b.data 3)
    (f1.1, ⟨f1.2 ++ f0.2, 255⟩)
  else
    let v := (w.partialFrame t).partialFrame t
    ({ v with x := { v.x with counters := { v.x.counters with partialFlag := true } } }, b)

/-- The beats of a burst in order (R148). -/
def LaneWork.beats (t : Slot) : List Beat → LaneWork → LaneWork × List Beat
  | [], w => (w, [])
  | b :: bs, w =>
    let r := w.beat t b
    let q := LaneWork.beats t bs r.1
    (q.1, r.2 :: q.2)

/-- The jump of a gap burst; an in-order burst makes none (R146). -/
def LaneWork.jump (t : Slot) (p : Nat) (w : LaneWork) : LaneWork :=
  if w.x.cursor < p then
    LaneWork.advanceTo t p
      { w with
        x := { w.x with counters := { w.x.counters with gapFrames := satAdd w.x.counters.gapFrames (p - w.x.cursor) } } }
  else w

/-- A burst processed whole: its hold, if it had one, has ended, and the staging base returns to the cursor (R148, R154). -/
def LaneWork.process (t : Slot) (p : Nat) (beats : List Beat) (w : LaneWork) : LaneWork × List Beat :=
  let r := (w.jump t p).beats t beats
  ({ r.1 with x := { r.1.x with held := none, timer := .idle, stagingBase := r.1.x.cursor } }, r.2)

/-! ## The staging window (R149) -/

/-- The wanted sample indices of a clip in the window from `base` (R149). -/
def wantedIndices (base : Nat) (e : ClipEntry) : List Nat :=
  if e.state = .releasing then []
  else List.range' (max e.start base - e.start) (min e.stop (base + Config.stagingWindow) - max e.start base)

/-- Whether a sample lies at a wanted position (R149). -/
def isWanted (base : Nat) (clips : List (Nat × ClipEntry)) (i k : Nat) : Bool :=
  match clips.find? fun c => c.1 == i with
  | none => false
  | some c =>
    decide (c.2.state ≠ .releasing) && decide (base ≤ c.2.start + k) &&
      decide (c.2.start + k < base + Config.stagingWindow) && decide (c.2.start + k < c.2.stop)

/-- Whether a run of samples has one that is wanted and not staged (R151). -/
def ClipTrack.runOpen (x : ClipTrack) (clips : List (Nat × ClipEntry)) (i first count : Nat) : Bool :=
  (List.range' first count).any fun k => isWanted x.stagingBase clips i k && !x.isStaged i k

/-- A read whose samples are all staged or no longer wanted is abandoned (R151). -/
def SampleRead.marked (r : SampleRead) (x : ClipTrack) (clips : List (Nat × ClipEntry)) : SampleRead :=
  { r with abandoned := r.abandoned || !x.runOpen clips r.clip r.first r.count }

/-- The staging buffer against a schedule: samples outside the window are discarded, reads none of whose samples is
wanted are abandoned, and so is a request (R146, R149, R151, R152, R154). -/
def ClipTrack.trimmed (x : ClipTrack) (clips : List (Nat × ClipEntry)) : ClipTrack :=
  let y := { x with staged := x.staged.filter fun s => isWanted x.stagingBase clips s.clip s.index }
  { y with
    reads := y.reads.map fun r => r.marked y clips
    request := match y.request with
      | none => none
      | some q => if y.runOpen clips q.clip q.first q.count then some q else none }

/-- The staging lead (R149). -/
def ClipTrack.stagingLead (x : ClipTrack) (clips : List (Nat × ClipEntry)) : Nat :=
  match clips.findSome? fun c =>
      ((wantedIndices x.stagingBase c.2).find? fun k =>
        decide (x.cursor ≤ c.2.start + k) && !x.isStaged c.1 k).map fun k => c.2.start + k with
  | none => Config.stagingWindow
  | some q => q - x.cursor

/-! ## Sample reads (R150) -/

/-- Whether a read covers a sample: a live read granted and unanswered, or the request (R150). -/
def ClipTrack.covers (x : ClipTrack) (i k : Nat) : Bool :=
  (x.reads.any fun r => !r.abandoned && r.clip == i && decide (r.first ≤ k) && decide (k < r.first + r.count)) ||
    match x.request with
    | none => false
    | some q => q.clip == i && decide (q.first ≤ k) && decide (k < q.first + q.count)

/-- The wanted samples of a clip that are neither staged nor covered (R150). -/
def ClipTrack.openIndices (x : ClipTrack) (c : Nat × ClipEntry) : List Nat :=
  (wantedIndices x.stagingBase c.2).filter fun k => !x.isStaged c.1 k && !x.covers c.1 k

/-- How many of these indices follow one another from `k` (R150). -/
def runFrom : Nat → List Nat → Nat
  | _, [] => 0
  | k, j :: js => if j = k then runFrom (k + 1) js + 1 else 0

/-- The first index of the run to be requested, its length and its clip: the lowest open position of the schedule (R150). -/
def ClipTrack.nextRun (x : ClipTrack) (clips : List (Nat × ClipEntry)) : Option (Nat × ClipEntry × Nat × Nat) :=
  clips.findSome? fun c =>
    match x.openIndices c with
    | [] => none
    | k :: ks => some (c.1, c.2, k, runFrom k (k :: ks))

/-- The address of a sample of a clip (R150). -/
def ClipEntry.sampleAddr (e : ClipEntry) (k : Nat) : Nat :=
  e.address.toNat + 2 * k

/-- The beats of the burst that reads a run whose first sample is at `a` (R150): up to the run's last sample, at most 16,
not past a 4 KiB boundary. -/
def readBeats (a run : Nat) : Nat :=
  min 16 (min ((a + 2 * run - 1 - a / 8 * 8) / 8 + 1) ((4096 - a / 8 * 8 % 4096) / 8))

/-- The request for a run (R150). -/
def requestFor (i : Nat) (e : ClipEntry) (k run stamp : Nat) : SampleRequest :=
  let a := e.sampleAddr k
  { clip := i
    first := k
    count := min run ((8 * readBeats a run - a % 8) / 2)
    addr := BitVec.ofNat 40 (a / 8 * 8)
    beats := readBeats a run
    stamp := stamp }

/-- The track after it makes the request that R150 calls for, if it calls for one. One request is made at a time, whether it
still waits as R13 states or is presented (log entry 33). -/
def ClipTrack.requesting (x : ClipTrack) (clips : List (Nat × ClipEntry)) (stamp : Nat) : ClipTrack :=
  match x.request with
  | some _ => x
  | none =>
    if x.reads.length < Config.laneReadLimit then
      match x.nextRun clips with
      | none => x
      | some (i, e, k, run) => { x with request := some (requestFor i e k run stamp) }
    else x

/-- Whether a lane mixes and fetches in a track state (R141, R150). -/
def TrackState.mixes : TrackState → Bool
  | .free => false
  | .loading => false
  | .running => true
  | .stalled => false
  | .degraded => true
  | .draining => true
  | .faulted => false

/-- The staging buffer is brought up to the schedule, and the lane makes the request that is called for (R148, R150, R152). -/
def Device.laneRefresh (d : Device) (t : Slot) : Device :=
  match (d.track t).clips with
  | none => d
  | some x =>
    if (d.track t).state.mixes then
      d.setClips t ((x.trimmed (d.schedule t)).requesting (d.schedule t) d.nextArrival)
    else d

/-- A lane that mixes reads the entries of its schedule for its next request: a damaged one ends the reading, and the monitor
is told (R120, R150, R172, log entry 12). -/
def Device.laneReads (d : Device) (t : Slot) : Device :=
  if (d.track t).state.mixes then
    match d.damagedClip t with
    | some i => d.tellMonitor .clip i
    | none => d.laneRefresh t
  else d

/-! ## Underruns (R158, R159) -/

/-- Whether DEGRADED handling applies (R143). -/
def ClipTrack.degradedHandling (x : ClipTrack) (st : TrackState) : Bool :=
  decide (st = .degraded) || (decide (st = .draining) && decide (x.degradedMark = some true))

/-- How a burst answered forward stood with its needed samples (R158, R159). -/
inductive Supply where
  | notNeeded
  | complete
  | short
  deriving DecidableEq, Repr

/-- The track enters DEGRADED, or its mark is set in DRAINING, and LANE DEGRADED is posted (R54, R46, R158). -/
def Device.degradeLane (d : Device) (t : Slot) (x : ClipTrack) : Device :=
  let e :=
    if (d.track t).state = .draining then d.setClips t { x with degradedMark := some true }
    else (d.setClips t x).setTrackState t .degraded
  e.post (.laneDegraded t x.lane x.cursor x.underruns (x.stagingLead (d.schedule t)))

/-- The track returns to RUNNING, or its mark is cleared in DRAINING, and LANE RECOVERED is posted (R54, R46, R159). -/
def Device.recoverLane (d : Device) (t : Slot) (x : ClipTrack) : Device :=
  let y := { x with underruns := 0 }
  let e :=
    if (d.track t).state = .draining then d.setClips t { y with degradedMark := some false }
    else (d.setClips t y).setTrackState t .running
  e.post (.laneRecovered t x.lane x.cursor (x.stagingLead (d.schedule t)))

/-- An underrun burst is counted, with the escalation it brings (R158, R159). -/
def Device.underrunBurst (d : Device) (t : Slot) (x : ClipTrack) : Device :=
  let y :=
    { x with
      underruns := min Config.faultLevel (x.underruns + 1)
      counters := { x.counters with underruns := satAdd x.counters.underruns 1 } }
  if x.degradedHandling (d.track t).state then
    if y.underruns = Config.faultLevel then (d.setClips t y).faultTrack t .underrun else d.setClips t y
  else if Config.degradeLevel ≤ y.underruns then d.degradeLane t y
  else d.setClips t y

/-- A burst answered forward acts on the underrun counter. `endsClip` says that it held the last frame of a clip (R158, R159). -/
def Device.countBurst (d : Device) (t : Slot) (supply : Supply) (endsClip : Bool) : Device :=
  match (d.track t).clips with
  | none => d
  | some x =>
    match supply with
    | .notNeeded => d
    | .complete =>
      if x.degradedHandling (d.track t).state then
        if endsClip || decide (Config.recoveryLead ≤ x.stagingLead (d.schedule t)) then d.recoverLane t x else d
      else d.setClips t { x with underruns := 0 }
    | .short => d.underrunBurst t x

/-! ## Answering (R153, R154) -/

/-- The head of the write queue is ready with this data (R10). -/
def Device.answerHead (d : Device) (beats : List Beat) : Device :=
  { d with
    writeQueue := match d.writeQueue with
      | [] => []
      | w :: rest => { w with beats := beats, status := .ready } :: rest }

/-- The head of the write queue is the held burst (R11). -/
def Device.holdHead (d : Device) : Device :=
  { d with
    writeQueue := match d.writeQueue with
      | [] => []
      | w :: rest => { w with status := .held } :: rest }

/-- A drain whose schedule is empty is complete (R46). The test for emptiness checks no entry: DESIGN CHOICE (unsafe, log entry
36). -/
def Device.endDrain (d : Device) (t : Slot) : Device :=
  if (d.track t).state = .draining ∧ (d.trackClips t).isEmpty then d.completeDrain t else d

/-- Whether a burst of `n` beats from `p` holds the frame at e − 1 of a clip (R159). -/
def holdsClipEnd (clips : List (Nat × ClipEntry)) (p n : Nat) : Bool :=
  clips.any fun c => decide (p + 1 ≤ c.2.stop) && decide (c.2.stop ≤ p + 2 * n)

/-- The lane answers the head forward: the burst is processed, the underrun counter handled, requests made and a drain
that this ends completed (R148, R153, R154, R158, R159). -/
def Device.forward (d : Device) (t : Slot) (x : ClipTrack) (p : Nat) (w : QueuedWrite) (supply : Supply) : Device :=
  let r := LaneWork.process t p w.original ⟨x, d.clipPool⟩
  let e : Device :=
    { (d.setClips t (r.1.x.trimmed (scheduleIn t r.1.pool))).answerHead r.2 with clipPool := r.1.pool }
  ((e.countBurst t supply (holdsClipEnd (d.schedule t) p w.original.length)).laneRefresh t).endDrain t

/-- The lane answers hold (R154). -/
def Device.hold (d : Device) (t : Slot) (x : ClipTrack) (p : Nat) (w : QueuedWrite) : Device :=
  ((d.setClips t
      { x with
        held := some ⟨p, 2 * w.original.length⟩
        stagingBase := p
        timer := .running x.settings.holdLimit }).holdHead).laneRefresh t

/-- A revisit is counted and flagged, and changes nothing else of the lane (R145). -/
def ClipTrack.revisited (x : ClipTrack) : ClipTrack :=
  { x with counters := { x.counters with revisits := satAdd x.counters.revisits 1, revisitFlag := true } }

/-- The lane's answer to a burst that is no revisit (R153). -/
def Device.offerMapped (d : Device) (t : Slot) (x : ClipTrack) (p : Nat) (w : QueuedWrite) : Device :=
  match d.damagedClip t with
  | some i => (d.tellMonitor .clip i).answerHead w.original
  | none =>
    let need := neededSamples (d.schedule t) p w.original
    if need.isEmpty then d.forward t x p w .notNeeded
    else if need.all fun n => x.isStaged n.1 n.2 then d.forward t x p w .complete
    else if x.degradedHandling (d.track t).state then d.forward t x p w .short
    else d.hold t x p w

/-- A burst is offered to a lane that mixes (R144, R153). -/
def Device.offerLane (d : Device) (t : Slot) (x : ClipTrack) (w : QueuedWrite) : Device :=
  let p := mapFirst x.settings.ringFrames x.cursor (x.settings.firstFrame w.addr)
  if isRevisit x.cursor (2 * w.original.length) p then (d.setClips t x.revisited).answerHead w.original
  else d.offerMapped t x p.toNat w

/-- The head write of a track's MIX window is offered to its lane (R10, R153, R161). -/
def Device.offer (d : Device) (t : Slot) (w : QueuedWrite) : Device :=
  if (d.track t).parityOk then
    match (d.track t).clips with
    | none => d.answerHead w.original
    | some x => if (d.track t).state.mixes then d.offerLane t x w else d.answerHead w.original
  else (d.tellMonitor .track t.val).answerHead w.original

/-- The slot whose lane a write is offered to: that of its match, if the match is MIX (R10). -/
def QueuedWrite.lane (w : QueuedWrite) : Option Slot :=
  match w.found with
  | none => none
  | some m => if m.window.kind = .mix then m.window.slot else none

/-- The head of the write queue is dealt with, if it has not been (R10). -/
def Device.offerHead (d : Device) : Device :=
  match d.writeQueue with
  | [] => d
  | w :: _ =>
    if w.status = .waiting then
      match w.lane with
      | none => d.answerHead w.beats
      | some t => d.offer t w
    else d

/-! ## The end of a hold (R154) -/

/-- The held burst: the head of the write queue, with the slot of the lane that holds it (R11). -/
def Device.heldWrite (d : Device) : Option (Slot × QueuedWrite) :=
  match d.writeQueue with
  | [] => none
  | w :: _ =>
    if w.status = .held then
      match w.lane with
      | none => none
      | some t => some (t, w)
    else none

/-- A held burst of track `t`, with the lane's mapping of it. -/
def Device.heldBy (d : Device) (t : Slot) (x : ClipTrack) : Option (HeldMapping × QueuedWrite) :=
  match d.heldWrite, x.held with
  | some (u, w), some h => if u = t then some (h, w) else none
  | some _, none => none
  | none, _ => none

/-- The lane reads its clips for a held burst: a damaged entry ends the reading, and the burst is presented with its
original data (R157). -/
def Device.endHold (d : Device) (t : Slot) (x : ClipTrack) (h : HeldMapping) (w : QueuedWrite) (supply : Supply) : Device :=
  match d.damagedClip t with
  | some i => (d.tellMonitor .clip i).answerHead w.original
  | none => d.forward t x h.first w supply

/-- The completion test (R154). -/
def Device.completionTest (d : Device) (t : Slot) : Device :=
  match (d.track t).clips with
  | none => d
  | some x =>
    match d.heldBy t x with
    | none => d
    | some (h, w) =>
      if (d.track t).state.mixes && (neededSamples (d.schedule t) h.first w.original).all fun n => x.isStaged n.1 n.2
      then d.endHold t x h w .complete
      else d

/-- The hold timer of track `t` expires (R154). The slot's body is looked at before its parity is checked:
DESIGN CHOICE (unsafe, log entry 37). -/
def Device.expireHold (d : Device) (t : Slot) : Device :=
  match (d.track t).clips with
  | none => d
  | some x =>
    match d.heldBy t x, x.timer with
    | none, _ => d
    | some _, .idle => d
    | some (h, w), .running _ =>
      d.readingTrack t fun c => if c.state.mixes then d.endHold t x h w .short else d

/-! ## Responses to sample reads (R151) -/

/-- The samples that a response brings: those of the read still wanted and not staged (R151). -/
def ClipTrack.arrivals (x : ClipTrack) (clips : List (Nat × ClipEntry)) (r : SampleRead) : List Nat :=
  (List.range' r.first r.count).filter fun k => isWanted x.stagingBase clips r.clip k && !x.isStaged r.clip k

/-- The staged samples of an OK response whose burst began at `addr`, each with its value and fresh parity (R151). -/
def stagedFrom (e : ClipEntry) (r : SampleRead) (addr : Addr) (bytes : List Byte) (ks : List Nat) : List StagedSample :=
  ks.map fun k => ⟨r.clip, k, BitVec.ofNat 16 (field bytes (e.sampleAddr k - addr.toNat) 2), false, true⟩

/-- The staged samples of an ERROR response (R151). -/
def stagedInError (r : SampleRead) (ks : List Nat) : List StagedSample :=
  ks.map fun k => ⟨r.clip, k, 0, true, true⟩

/-- The track after a response to one of its live reads (R151). -/
def ClipTrack.received (x : ClipTrack) (d : Device) (t : Slot) (r : SampleRead) (o : Outstanding) (resp : Resp)
    (data : List Word) : ClipTrack :=
  let ks := x.arrivals (d.schedule t) r
  match resp, d.clip r.clip with
  | .ok, some e => { x with staged := x.staged ++ stagedFrom e r o.addr (dataBytes data) ks }
  | .ok, none => x
  | .error, _ =>
    { x with
      staged := x.staged ++ stagedInError r ks
      counters := { x.counters with sampleErrorFlag := x.counters.sampleErrorFlag || !ks.isEmpty } }

/-- A response to a live sample read reaches its lane: samples, then requests, then the completion test (R151, R154). -/
def Device.stageResponse (d : Device) (t : Slot) (x : ClipTrack) (r : SampleRead) (o : Outstanding) (resp : Resp)
    (data : List Word) : Device :=
  d.readingTrack t fun _ =>
    match d.damagedClip t with
    | some i => d.tellMonitor .clip i
    | none =>
      let y := { x with reads := x.reads.filter fun u => u.tag != o.tag }
      ((d.setClips t (y.received d t r o resp data)).laneRefresh t).completionTest t

/-- The track that a sample read belongs to, if it is still there: the holder of the lane, with the read (R17, R151). The slots'
bodies are looked at without a check of their parity: DESIGN CHOICE (unsafe, log entry 37). -/
def Device.sampleReadOf (d : Device) (l : LaneNo) (tag : Nat) : Option (Slot × ClipTrack × SampleRead) :=
  match d.laneHolder l with
  | none => none
  | some (t, x) => (x.reads.find? fun r => r.tag == tag).map fun r => (t, x, r)

/-- A response to a sample read of a lane (R151, R17). One to an abandoned read is discarded, without a report, and the lane
reads its schedule for the request that R150 then calls for. -/
def Device.sampleResponse (d : Device) (l : LaneNo) (o : Outstanding) (resp : Resp) (data : List Word) : Device :=
  match d.sampleReadOf l o.tag with
  | none => d
  | some (t, x, r) =>
    if r.abandoned then
      (d.setClips t { x with reads := x.reads.filter fun u => u.tag != o.tag }).laneReads t
    else
      match resp with
      | .ok => d.stageResponse t x r o .ok data
      | .error => (d.post (.memoryError t (some l) o.addr o.count)).stageResponse t x r o .error data

/-! ## Captured clip records (R115, R152) -/

/-- A clip capture is decided by the five steps. An acceptance reaches the staging buffer and the held burst (R116, R152). -/
def Device.takeClip (d : Device) (t : Slot) (x : ClipTrack) (n : Nat) (r : ClipRecord) : Device :=
  match decideClip d t x n r with
  | .dropped adjusted drop => d.dropClip t x adjusted drop
  | .damaged i => d.tellMonitor .clip i
  | .accepted adjusted number e moved => ((d.acceptClip t x adjusted number e moved).laneRefresh t).completionTest t

/-- A captured record of a CLIP intake ring (R115). The slot's body is looked at before its parity is checked:
DESIGN CHOICE (unsafe, log entry 37). -/
def Device.captureClip (d : Device) (t : Slot) (n : Nat) (r : ClipRecord) : Device :=
  match (d.track t).clips with
  | none => d
  | some x =>
    d.readingTrack t fun c =>
      match c.state with
      | .free => d
      | .loading => d
      | .running => d.takeClip t x n r
      | .stalled => d
      | .degraded => d.takeClip t x n r
      | .draining => d.dropClip t x false (ClipDrop.plain .draining .none n r)
      | .faulted => d

/-- A partial write into a CLIP intake ring (R115). The slot's body is looked at before its parity is checked:
DESIGN CHOICE (unsafe, log entry 37). -/
def Device.partialClipWrite (d : Device) (t : Slot) : Device :=
  match (d.track t).clips with
  | none => d
  | some x =>
    d.readingTrack t fun c =>
      if c.state.mixes then
        d.setClips t { x with counters := { x.counters with partialWrites := satAdd x.counters.partialWrites 1 } }
      else d

end Sys2Proof.Machine
end

