-- ==== Sys2Proof/Machine/Reports.lean ====
section
/-! DEFINITION. The report writer (spec 10): the start of a report, its two bursts, the reading of trailers, and the switch of
the report ring (R32). -/

namespace Sys2Proof.Machine

open Sys2Proof

/-! ## Writing (R164, R165) -/

/-- The oldest queued report begins: it takes slot w mod Cr, and the lost-report count goes into its header (R164). -/
def ReportWriter.begun (w : ReportWriter) (ring : ReportRing) (x : Report) (rest : List Report) : ReportWriter :=
  { ring := some { ring with slots := ring.slots.set (ring.written % ring.slotCount) .writing }
    queue := rest
    writing := some ⟨x, ring.written % ring.slotCount, w.lost, .bodyPresented⟩
    lost := 0 }

/-- The report writer begins its oldest queued report, if a ring is set, none is in writing and the directive engine is not
WAITING (R164). -/
def Device.beginReport (d : Device) : Device :=
  match d.engine.current, d.reports.writing, d.reports.ring, d.reports.queue with
  | none, none, some ring, x :: rest => { d with reports := d.reports.begun ring x rest }
  | none, none, some _, [] => d
  | none, none, none, _ => d
  | none, some _, _, _ => d
  | some _, _, _, _ => d

/-- The address of byte `off` of a slot of the report ring (R164). -/
def ReportRing.address (r : ReportRing) (slot off : Nat) : Addr :=
  r.base + BitVec.ofNat 40 (64 * slot + off)

/-- The burst that the report writer presents, if it presents one (R164). -/
def ReportWriter.burst (w : ReportWriter) : Option (Addr × List Beat) :=
  match w.ring, w.writing with
  | some r, some x =>
    match x.stage with
    | .bodyPresented => some (r.address x.slot 0, fullBeats 7 (x.report.body x.carried))
    | .bodyGranted _ => none
    | .trailerPresented => some (r.address x.slot 56, fullBeats 1 (reportTrailer (reportMark r.written r.slotCount)))
    | .trailerGranted _ => none
  | some _, none => none
  | none, _ => none

/-- The stage after the presented burst is granted under an identifier. -/
def ReportStage.granted (tag : Nat) : ReportStage → ReportStage
  | .bodyPresented => .bodyGranted tag
  | .bodyGranted u => .bodyGranted u
  | .trailerPresented => .trailerGranted tag
  | .trailerGranted u => .trailerGranted u

/-- The report writer after its presented burst is granted. -/
def ReportWriter.burstGranted (w : ReportWriter) (tag : Nat) : ReportWriter :=
  { w with writing := w.writing.map fun x => { x with stage := x.stage.granted tag } }

/-- A slot of the ring takes a state. -/
def ReportWriter.setSlot (w : ReportWriter) (slot : Nat) (s : ReportSlot) : ReportWriter :=
  { w with ring := w.ring.map fun r => { r with slots := r.slots.set slot s } }

/-- The trailer is answered OK: the slot becomes WRITTEN and w rises (R164). -/
def ReportWriter.completed (w : ReportWriter) (x : ReportInWriting) : ReportWriter :=
  { (w.setSlot x.slot .written) with
    ring := w.ring.map fun r => { r with slots := r.slots.set x.slot .written, written := r.written + 1 }
    writing := none }

/-- A report is abandoned: its slot returns to EMPTY and its loss is counted (R165). -/
def ReportWriter.abandoned (w : ReportWriter) (x : ReportInWriting) : ReportWriter :=
  { w.setSlot x.slot .empty with writing := none, lost := satAdd w.lost (x.carried + 1) }

/-! ## The ring switch (R32) -/

/-- A new ring: every slot EMPTY, w and r 0 (R32, R162). -/
def ReportRing.fresh (base : Addr) (size : Nat) : ReportRing :=
  ⟨base, size, 0, 0, List.replicate (size / 64) .empty⟩

/-- The window of a SET REPORT RING. -/
def Directive.reportWindow (x : Directive) : Window :=
  ⟨x.address1, 1024 * x.sizeKiB, .report, none⟩

/-- The directive engine is IDLE. -/
def Device.idled (d : Device) : Device :=
  { d with engine := { d.engine with current := none } }

/-- The switch of R32 for a SET REPORT RING: the overlap test leaves entry 1 out. -/
def Device.switchRing (d : Device) (x : Directive) : Device :=
  if d.rangeFree (some 1) x.address1 (1024 * x.sizeKiB) then
    let e := (d.removeWindows fun i => decide (i = 1)).install 1 x.reportWindow
    { e with
      reports := { e.reports with ring := some (ReportRing.fresh x.address1 (1024 * x.sizeKiB)) } }.idled
  else (d.refuse x .overlap).idled

/-- A waiting ring switch takes place when the report in writing has ended (R31). -/
def Device.reportEnded (d : Device) : Device :=
  match d.engine.current with
  | none => d
  | some x => d.switchRing x

/-- The response to a report burst (R164, R165). -/
def Device.reportResponse (d : Device) (tag : Nat) (resp : Resp) : Device :=
  match d.reports.writing with
  | none => d
  | some x =>
    match x.stage, resp with
    | .bodyPresented, _ => d
    | .bodyGranted u, .ok =>
      if u = tag then
        { d with reports := { d.reports with writing := some { x with stage := .trailerPresented } } }
      else d
    | .bodyGranted u, .error => if u = tag then { d with reports := d.reports.abandoned x }.reportEnded else d
    | .trailerPresented, _ => d
    | .trailerGranted u, .ok => if u = tag then { d with reports := d.reports.completed x }.reportEnded else d
    | .trailerGranted u, .error => if u = tag then { d with reports := d.reports.abandoned x }.reportEnded else d

/-! ## Consumption (R166) -/

/-- Where the read point comes to rest: it passes CONSUMED slots up to w (R166). -/
def readEnd (slots : List ReportSlot) (w : Nat) : Nat → Nat → Nat
  | 0, r => r
  | n + 1, r =>
    if r < w ∧ slots[r % slots.length]? = some .consumed then readEnd slots w n (r + 1) else r

/-- The slots after the read point has passed `n` of them from `r` on: each is EMPTY (R166). -/
def emptyReportSlots (slots : List ReportSlot) (r : Nat) : Nat → List ReportSlot
  | 0 => slots
  | n + 1 => emptyReportSlots (slots.set (r % slots.length) .empty) (r + 1) n

/-- The ring after slot `n`, which was WRITTEN, is consumed (R166). -/
def ReportRing.consumed (r : ReportRing) (n : Nat) : ReportRing :=
  let slots := r.slots.set n .consumed
  if n = r.read % r.slotCount then
    let e := readEnd slots r.written r.slotCount r.read
    { r with slots := emptyReportSlots slots r.read (e - r.read), read := e }
  else { r with slots := slots }

/-- A trailer-read event of a report slot (R166). -/
def Device.reportTrailerRead (d : Device) (n : Nat) : Device :=
  match d.reports.ring with
  | none => d
  | some r =>
    if r.slots[n]? = some .written then
      { d with reports := { d.reports with ring := some (r.consumed n) } }
    else d

end Sys2Proof.Machine
end

