-- ==== Sys2Proof/WellFormed.lean ====
section
/-! DEFINITION. When a command is one that the two ports can carry (spec 00 section 2.7). -/

namespace Sys2Proof

/-- A burst of the bus: 1 to 16 beats at consecutive addresses, beginning on a beat, inside one 4 KiB page
(spec 00 section 2.7). -/
def burstOk (addr : Addr) (count : Nat) : Bool :=
  decide (1 ≤ count) && decide (count ≤ 16) && decide (addr.toNat % 8 = 0) &&
    decide (addr.toNat % 4096 + 8 * count ≤ 4096)

/-- Read data of one response: at most the 16 beats of a burst (spec 00 section 2.7). -/
def dataOk (data : List Word) : Bool :=
  decide (data.length ≤ 16)

/-- The check of one command. -/
def Instr.wellFormed : Instr → Bool
  | .resetAssert => true
  | .resetRelease _ => true
  | .upstreamWrite _ addr beats => burstOk addr beats.length
  | .upstreamRead _ addr count => burstOk addr count
  | .memoryGrant => true
  | .holdTimerExpiry => true
  | .prefetchResponse _ _ data => dataOk data
  | .throughReadResponse _ _ data => dataOk data
  | .throughWriteResponse _ _ => true
  | .descriptorResponse _ _ data => dataOk data
  | .recordWriteResponse _ _ => true
  | .reportBegin => true
  | .reportWriteResponse _ _ => true
  | .openTrack => true
  | .closeTrack => true
  | .flushTrack => true
  | .abortTrack => true
  | .retuneTrack => true
  | .resumeTrack => true
  | .setReportRing => true
  | .clearBypass => true
  | .unknownDirective => true

end Sys2Proof
end

