-- ==== Sys2Proof/Machine/ThroughPath.lean ====
section
/-! DEFINITION. The through-path (spec 01): the match of a burst, what a matched write or read does on arrival, and the
responses to forwarded bursts. -/

namespace Sys2Proof.Machine

open Sys2Proof

/-! ## The match (R3) -/

/-- The live window entries that fail their parity check, in entry order (R2, R3). -/
def Device.damagedWindows (d : Device) : List EntryNo :=
  (List.finRange 34).filter fun i =>
    match d.windows[i.val] with
    | none => false
    | some e => !e.parityOk

/-- The live entry that an address lies in (R3). -/
def Device.lookup (d : Device) (addr : Addr) : Option WindowMatch :=
  (List.finRange 34).findSome? fun i =>
    match d.windows[i.val] with
    | none => none
    | some e => if e.window.holds addr then some ⟨i, e.window⟩ else none

/-- The match of a burst on arrival. Where damaged entries are found the burst is unmatched, and the integrity monitor is told
of each (R3, R173). -/
def Device.matchBurst (d : Device) (addr : Addr) : Device × Option WindowMatch :=
  match d.damagedWindows with
  | [] => (d, d.lookup addr)
  | i :: is => ((i :: is).foldl (fun e j => e.tellMonitor .window j.val) d, none)

/-- A write's match in a device mode: in BYPASS only CONTROL counts (R3). -/
def writeMatch (mode : Mode) (found : Option WindowMatch) : Option WindowMatch :=
  match mode with
  | .normal => found
  | .bypass => found.filter fun m => m.window.kind == .control

/-- A read's match in a device mode: in BYPASS only REPORT counts (R3). -/
def readMatch (mode : Mode) (found : Option WindowMatch) : Option WindowMatch :=
  match mode with
  | .normal => found
  | .bypass => found.filter fun m => m.window.kind == .report

/-! ## Writes (R5 to R9) -/

/-- A write joins the tail of the write queue (R9). -/
def Device.joinQueue (d : Device) (id : Nat) (addr : Addr) (beats : List Beat) (found : Option WindowMatch) : Device :=
  { d with
    writeQueue := d.writeQueue ++ [⟨id, addr, beats, beats, found, d.nextArrival, .waiting⟩]
    nextArrival := d.nextArrival + 1 }

/-- A write is fenced: FENCED WRITE is posted and the issuer is answered ERROR (R7). -/
def Device.fence (d : Device) (id : Nat) (addr : Addr) (beats : List Beat) (w : Window) (firstHeld : Option Nat) : Device :=
  (d.post (.fencedWrite w.slot w.kind addr beats.length firstHeld)).show (.answerWrite id .error)

/-- A directive arrives: it is given the next capture number and joins the queue, or is lost with a QUEUE FULL refusal
(R22, R23). -/
def Device.captureDirective (d : Device) (x : Directive) : Device :=
  let e := d.engine
  let n : Device := { d with engine := { e with nextCapture := e.nextCapture + 1 } }
  if e.queue.length < Config.directiveQueueDepth then
    { n with engine := { n.engine with queue := e.queue ++ [⟨x, true⟩] } }
  else n.refuse x .queueFull

/-- A partial write into the control window is counted (R24). -/
def Device.partialControlWrite (d : Device) : Device :=
  { d with engine := { d.engine with partialWrites := satAdd d.engine.partialWrites 1 } }

/-- A write into the control window is handed to the directive engine (R5, R20). -/
def Device.controlWrite (d : Device) (base addr : Addr) (beats : List Beat) : Device :=
  if wholeRecord 64 base addr beats then
    d.captureDirective (parseDirective (beatsBytes beats) ((addr.toNat - base.toNat) / 64) d.engine.nextCapture)
  else d.partialControlWrite

/-- The intake slots that a write touches (R6). -/
def touchedSlots (base addr : Addr) (count : Nat) : List Nat :=
  let off := addr.toNat - base.toNat
  List.range' (off / 128) ((off + 8 * count - 1) / 128 + 1 - off / 128)

/-- The first held slot that a write touches (R6, R7). -/
def Device.firstHeld (d : Device) (t : Slot) (base addr : Addr) (count : Nat) : Option Nat :=
  (touchedSlots base addr count).find? (d.slotHeld t)

/-- An unfenced write into an intake ring is handed to the block of its ring (R6). -/
def Device.intakeWrite (d : Device) (t : Slot) (kind : WindowKind) (base addr : Addr) (beats : List Beat) : Device :=
  let n := (addr.toNat - base.toNat) / 128
  match kind with
  | .control => d
  | .report => d
  | .textIntake =>
    if wholeRecord 128 base addr beats then d.captureCue t n (parseCue (beatsBytes beats)) else d.partialCueWrite t
  | .index => d
  | .clipIntake =>
    if wholeRecord 128 base addr beats then d.captureClip t n (parseClip (beatsBytes beats)) else d.partialClipWrite t
  | .mix => d

/-- A write into an intake ring (R6). -/
def Device.ringWrite (d : Device) (id : Nat) (addr : Addr) (beats : List Beat) (m : WindowMatch) : Device :=
  match m.window.slot with
  | none => d.joinQueue id addr beats (some m)
  | some t =>
    match d.firstHeld t m.window.base addr beats.length with
    | some n => d.fence id addr beats m.window (some n)
    | none => (d.joinQueue id addr beats (some m)).intakeWrite t m.window.kind m.window.base addr beats

/-- What a matched write does on arrival (spec 01 section 1.3). -/
def Device.matchedWrite (d : Device) (id : Nat) (addr : Addr) (beats : List Beat) (m : WindowMatch) : Device :=
  match m.window.kind with
  | .control => (d.joinQueue id addr beats (some m)).controlWrite m.window.base addr beats
  | .report => d.fence id addr beats m.window none
  | .textIntake => d.ringWrite id addr beats m
  | .index => d.fence id addr beats m.window none
  | .clipIntake => d.ringWrite id addr beats m
  | .mix => d.joinQueue id addr beats (some m)

/-- What a write does on arrival, with its match made. -/
def Device.placeWrite (d : Device) (id : Nat) (addr : Addr) (beats : List Beat) (found : Option WindowMatch) : Device :=
  match found with
  | none => d.joinQueue id addr beats none
  | some m => d.matchedWrite id addr beats m

/-- An upstream write burst arrives. With 16 writes queued the port does not accept it (R9); otherwise it is matched, placed,
and the head of the queue is dealt with (R10). -/
def Device.writeArrives (d : Device) (id : Nat) (addr : Addr) (beats : List Beat) : Device :=
  if d.writeQueue.length < Config.writeQueueDepth then
    let r := d.matchBurst addr
    (r.1.placeWrite id addr beats (writeMatch d.engine.mode r.2)).offerHead
  else d.show (.notAccepted id)

/-- The device while RESET_N is low: the upstream port accepts no burst (R171). -/
def Device.turnedAway (d : Device) (id : Nat) : Device :=
  { d with ports := [.notAccepted id] }

/-- UPSTREAM_WRITE (R9). What is no burst of the bus is refused; while RESET_N is low no burst is accepted (R19). -/
def execUpstreamWrite (id : Nat) (addr : Addr) (beats : List Beat) (s : State) : Host.Outcome State Fault Refusal :=
  if burstOk addr beats.length then
    if s.dev.resetN then s.ran fun d => d.writeArrives id addr beats
    else .next { s with dev := s.dev.turnedAway id }
  else .refused .notABurst

/-! ## Reads (R8, R12) -/

/-- The numbers of the slots whose trailer beat, at `off` of each `stride` bytes, a read covers, in increasing address
order (R8). -/
def trailersIn (stride off : Nat) (base addr : Addr) (count : Nat) : List Nat :=
  let r := addr.toNat - base.toNat
  (List.range' (r / stride) (8 * count / stride + 2)).filter fun n =>
    decide (r ≤ stride * n + off) && decide (stride * n + off < r + 8 * count)

/-- The slots whose trailer beats a read of a window covers: 1024-byte slots of an INDEX ring, 64-byte slots of the REPORT
ring; reads of no other kind are watched (R8). -/
def coveredTrailers (w : Window) (addr : Addr) (count : Nat) : List Nat :=
  match w.kind with
  | .control => []
  | .report => trailersIn 64 56 w.base addr count
  | .textIntake => []
  | .index => trailersIn 1024 1016 w.base addr count
  | .clipIntake => []
  | .mix => []

/-- The match of a watched read; any other read keeps none (R8). -/
def watched (addr : Addr) (count : Nat) (found : Option WindowMatch) : Option WindowMatch :=
  found.filter fun m => !(coveredTrailers m.window addr count).isEmpty

/-- A read joins the read list (R12). -/
def Device.joinReads (d : Device) (id : Nat) (addr : Addr) (count : Nat) (found : Option WindowMatch) : Device :=
  { d with
    readList := d.readList ++ [⟨id, addr, count, found, d.nextArrival⟩]
    nextArrival := d.nextArrival + 1 }

/-- An upstream read burst arrives. With 16 reads listed the port does not accept it; otherwise it is matched and joins the
read list (R3, R12). -/
def Device.readArrives (d : Device) (id : Nat) (addr : Addr) (count : Nat) : Device :=
  if d.readList.length < Config.readListDepth then
    let r := d.matchBurst addr
    r.1.joinReads id addr count (watched addr count (readMatch d.engine.mode r.2))
  else d.show (.notAccepted id)

/-- UPSTREAM_READ (R12). What is no burst of the bus is refused; while RESET_N is low no burst is accepted (R19). -/
def execUpstreamRead (id : Nat) (addr : Addr) (count : Nat) (s : State) : Host.Outcome State Fault Refusal :=
  if burstOk addr count then
    if s.dev.resetN then s.ran fun d => d.readArrives id addr count
    else .next { s with dev := s.dev.turnedAway id }
  else .refused .notABurst

/-! ## Responses to forwarded bursts (R1, R8) -/

/-- One trailer-read event is handed to the owner of the window: the segmenter or the report writer (R8). -/
def Device.trailerRead (d : Device) (w : Window) (n : Nat) : Device :=
  match w.kind with
  | .control => d
  | .report => d.reportTrailerRead n
  | .textIntake => d
  | .index =>
    match w.slot with
    | none => d
    | some t => d.indexTrailerRead t n
  | .clipIntake => d
  | .mix => d

/-- The trailer-read events of a read answered OK, in increasing address order (R8). -/
def Device.watchEvents (d : Device) (found : Option WindowMatch) (addr : Addr) (count : Nat) : Device :=
  match found with
  | none => d
  | some m => (coveredTrailers m.window addr count).foldl (fun e n => e.trailerRead m.window n) d

/-- Whether a response carries the data that its burst asked for: an OK response carries one word a beat. -/
def dataFits (o : Outstanding) (resp : Resp) (data : List Word) : Bool :=
  match resp with
  | .ok => decide (data.length = o.count)
  | .error => true

/-- The response to a forwarded read: any watch events, then the issuer is answered (R1, R8). -/
def Device.readAnswered (d : Device) (o : Outstanding) (id : Nat) (found : Option WindowMatch) (resp : Resp)
    (data : List Word) : Device :=
  match resp with
  | .ok => ((d.answered o.tag).watchEvents found o.addr o.count).show (.answerRead id .ok data)
  | .error => (d.answered o.tag).show (.answerRead id .error data)

/-- A response to a forwarded read arrives (R1, R8). -/
def Device.throughRead (d : Device) (tag : Nat) (resp : Resp) (data : List Word) : Device :=
  match d.outstandingOf tag with
  | none => d
  | some o =>
    match o.purpose with
    | .throughRead id found => if dataFits o resp data then d.readAnswered o id found resp data else d
    | .throughWrite _ => d
    | .descriptor _ _ => d
    | .samples _ => d
    | .record _ => d
    | .report => d

/-- THROUGH_READ_RESPONSE (R8). -/
def execThroughReadResponse (tag : Nat) (resp : Resp) (data : List Word) (s : State) : Host.Outcome State Fault Refusal :=
  s.ran fun d => d.throughRead tag resp data

/-- A response to a forwarded write arrives: it is relayed to the issuer (R1). -/
def Device.throughWrite (d : Device) (tag : Nat) (resp : Resp) : Device :=
  match d.outstandingOf tag with
  | none => d
  | some o =>
    match o.purpose with
    | .throughRead _ _ => d
    | .throughWrite id => (d.answered tag).show (.answerWrite id resp)
    | .descriptor _ _ => d
    | .samples _ => d
    | .record _ => d
    | .report => d

/-- THROUGH_WRITE_RESPONSE (R1). -/
def execThroughWriteResponse (tag : Nat) (resp : Resp) (s : State) : Host.Outcome State Fault Refusal :=
  s.ran fun d => d.throughWrite tag resp

end Sys2Proof.Machine
end

