-- ==== Sys2Proof/Machine/Arbiter.lean ====
section
/-! DEFINITION. The memory port arbiter (spec 01 section 1.6): who waits, who is granted, and what a grant does. -/

namespace Sys2Proof.Machine

open Sys2Proof

/-! ## Who waits (R15) -/

/-- The through-path's presented burst, found again where it waits (R14). -/
inductive ThroughBurst where
  | write (w : QueuedWrite)
  | read (r : QueuedRead)
  deriving DecidableEq, Repr

/-- The burst that the through-path presents (R14). -/
def Device.throughBurst (d : Device) : Option ThroughBurst :=
  match d.presented with
  | none => none
  | some .write =>
    match d.writeQueue with
    | [] => none
    | w :: _ => if w.status = .ready then some (.write w) else none
  | some (.read a) => (d.readList.find? fun r => r.arrival == a).map .read

/-- The sample read that a lane presents, if its waits of R13 are over, and whether it is urgent (R11, R150). -/
def Device.laneRequest (d : Device) (l : LaneNo) : Option (Slot × ClipTrack × SampleRequest) :=
  match d.laneHolder l with
  | none => none
  | some (t, x) =>
    match x.request with
    | none => none
    | some q => if d.readClear q.stamp q.addr q.beats then some (t, x, q) else none

/-- Whether a lane presents an urgent read (R15). -/
def Device.urgentAt (d : Device) (l : LaneNo) : Bool :=
  match d.laneRequest l with
  | none => false
  | some (_, x, _) => x.held.isSome

/-- Whether a lane presents an ordinary read (R15). -/
def Device.ordinaryAt (d : Device) (l : LaneNo) : Bool :=
  match d.laneRequest l with
  | none => false
  | some (_, x, _) => x.held.isNone

/-- The burst that the record writer presents for a slot (R103). -/
def Device.recordBurstOf (d : Device) (t : Slot) : Option (TextTrack × Nat × SegmentRecord) :=
  match (d.track t).text with
  | none => none
  | some x => x.recordBurst.map fun b => (x, b.1, b.2)

/-- The descriptor read that a LOADING slot presents, if its waits of R13 are over (R37). -/
def Device.descriptorRead (d : Device) (t : Slot) : Option (Directive × Addr) :=
  let c := d.track t
  match c.opening, c.descriptorAddr, c.fetch with
  | some x, some a, some stamp => if c.state = .loading ∧ d.readClear stamp a 16 then some (x, a) else none
  | some _, some _, none => none
  | some _, none, _ => none
  | none, _, _ => none

/-- The slots in turn, from this one on and round again (R15). -/
def slotsFrom (t : Slot) : List Slot :=
  allSlots.map fun i => t + i

/-- The lanes in turn, from this one on and round again (R15). -/
def lanesFrom (l : LaneNo) : List LaneNo :=
  allLanes.map fun i => l + i

/-- The lane granted next for urgent prefetch. At most one burst is held, so at most one lane is urgent (R11). -/
def Device.urgentLane (d : Device) : Option LaneNo :=
  allLanes.find? d.urgentAt

/-- The lane granted next for ordinary prefetch (R15). -/
def Device.ordinaryLane (d : Device) : Option LaneNo :=
  (lanesFrom d.arbiter.laneTurn).find? d.ordinaryAt

/-- The slot granted next for the record writer (R15). -/
def Device.recordSlot (d : Device) : Option Slot :=
  (slotsFrom d.arbiter.recordTurn).find? fun t => (d.recordBurstOf t).isSome

/-- The slot granted next for a descriptor read (R15). -/
def Device.descriptorSlot (d : Device) : Option Slot :=
  (slotsFrom d.arbiter.descriptorTurn).find? fun t => (d.descriptorRead t).isSome

/-- Whether a requester has a burst waiting (R15). -/
def Device.waits (d : Device) : Requester → Bool
  | .urgentPrefetch => d.urgentLane.isSome
  | .throughPath => d.throughBurst.isSome
  | .recordWriter => d.recordSlot.isSome
  | .descriptorReads => d.descriptorSlot.isSome
  | .ordinaryPrefetch => d.ordinaryLane.isSome
  | .reportWriter => d.reports.burst.isSome

/-- The requesters other than the through-path, in rank order (R15, R16). -/
def ownRequesters : List Requester :=
  [.urgentPrefetch, .recordWriter, .descriptorReads, .ordinaryPrefetch, .reportWriter]

/-- The requesters in rank order (R15). -/
def rankedRequesters : List Requester :=
  [.urgentPrefetch, .throughPath, .recordWriter, .descriptorReads, .ordinaryPrefetch, .reportWriter]

/-- Whether own traffic waits (R16). -/
def Device.ownWaiting (d : Device) : Bool :=
  ownRequesters.any d.waits

/-- The requester of the next grant: the highest-ranked that waits, the through-path passed over when the grant count
stands at its bound and own traffic waits (R15, R16). -/
def Device.winner (d : Device) : Option Requester :=
  if d.arbiter.grantCount = Config.starvationBound ∧ d.ownWaiting then ownRequesters.find? d.waits
  else rankedRequesters.find? d.waits

/-- The grant count after a grant (R16). -/
def Device.countGrant (d : Device) (r : Requester) : Device :=
  { d with
    arbiter := { d.arbiter with
      grantCount := match r with
        | .throughPath =>
          if d.ownWaiting then min Config.starvationBound (d.arbiter.grantCount + 1) else 0
        | .urgentPrefetch => 0
        | .recordWriter => 0
        | .descriptorReads => 0
        | .ordinaryPrefetch => 0
        | .reportWriter => 0 } }

/-! ## What a grant does -/

/-- The presented burst of the through-path is issued. A write leaves the queue and the next entry becomes the head; a read
leaves the read list (R10, R12). -/
def Device.grantThrough (d : Device) : Device :=
  match d.throughBurst with
  | none => d
  | some (.write w) =>
    ({ d with writeQueue := d.writeQueue.tail, presented := none }.issueWrite .throughPath (.throughWrite w.id) w.addr
      w.beats).offerHead
  | some (.read r) =>
    { d with readList := d.readList.filter fun q => q.arrival != r.arrival, presented := none }.issueRead .throughPath
      (.throughRead r.id r.found) r.addr r.count

/-- A burst of the record in flight of a slot is issued (R103). -/
def Device.grantRecord (d : Device) : Device :=
  match d.recordSlot with
  | none => d
  | some t =>
    match d.recordBurstOf t with
    | none => d
    | some (x, i, r) =>
      let y := { x with flight := x.flight.map fun f => { f with granted := f.granted + 1, tags := f.tags ++ [d.nextTag] } }
      { (d.issueWrite .recordWriter (.record t) (x.burstAddr r i) (r.burst i)).setText t y with
        arbiter := { d.arbiter with recordTurn := t + 1 } }

/-- The descriptor read of a slot is issued (R37). -/
def Device.grantDescriptor (d : Device) : Device :=
  match d.descriptorSlot with
  | none => d
  | some t =>
    match d.descriptorRead t with
    | none => d
    | some (x, a) =>
      { (d.issueRead .descriptorReads (.descriptor t x.capture) a 16).setTrack t { d.track t with fetch := none } with
        arbiter := { d.arbiter with descriptorTurn := t + 1 } }

/-- The sample read that a lane presents is issued, and the lane makes its next request (R150). -/
def Device.issueSamples (d : Device) (who : Requester) (l : LaneNo) : Device :=
  match d.laneRequest l with
  | none => d
  | some (t, x, q) =>
    let y := { x with request := none, reads := x.reads ++ [⟨d.nextTag, q.clip, q.first, q.count, false⟩] }
    ((d.issueRead who (.samples l) q.addr q.beats).setClips t y).laneReads t

/-- An urgent prefetch is issued (R15). The turn of ordinary prefetch stays where it is. -/
def Device.grantUrgent (d : Device) : Device :=
  match d.urgentLane with
  | none => d
  | some l => d.issueSamples .urgentPrefetch l

/-- An ordinary prefetch is issued (R15). -/
def Device.grantOrdinary (d : Device) : Device :=
  match d.ordinaryLane with
  | none => d
  | some l => { d with arbiter := { d.arbiter with laneTurn := l + 1 } }.issueSamples .ordinaryPrefetch l

/-- A burst of the report in writing is issued (R164). -/
def Device.grantReport (d : Device) : Device :=
  match d.reports.burst with
  | none => d
  | some (a, beats) =>
    { d.issueWrite .reportWriter .report a beats with reports := d.reports.burstGranted d.nextTag }

/-- The grant goes to a requester (R15). -/
def Device.grantTo (d : Device) : Requester → Device
  | .urgentPrefetch => d.grantUrgent
  | .throughPath => d.grantThrough
  | .recordWriter => d.grantRecord
  | .descriptorReads => d.grantDescriptor
  | .ordinaryPrefetch => d.grantOrdinary
  | .reportWriter => d.grantReport

/-- The arbiter makes a grant: none while 32 bursts are outstanding or nothing waits (R15). -/
def Device.grant (d : Device) : Device :=
  if d.outstanding.length < Config.outstandingLimit then
    match d.winner with
    | none => d
    | some r => (d.countGrant r).grantTo r
  else d

/-- MEMORY_GRANT (R15). -/
def execMemoryGrant (s : State) : Host.Outcome State Fault Refusal :=
  s.ran Device.grant

end Sys2Proof.Machine
end

