-- ==== Sys2Proof/Machine/Directives.lean ====
section
/-! DEFINITION. The directive engine (spec 02) and the immediate parts of the track directives (spec 03): one command for each
directive, in which the engine takes the oldest entry of its queue. -/

namespace Sys2Proof.Machine

open Sys2Proof

/-! ## Taking a directive (R25, R27) -/

/-- The oldest entry leaves the queue (R25). -/
def Device.dequeued (d : Device) : Device :=
  { d with engine := { d.engine with queue := d.engine.queue.tail } }

/-- The engine takes the oldest entry of its queue as a directive of this kind. Where the engine is WAITING, the queue is
empty, or its oldest entry is of another kind, this is not the event that occurs, and nothing changes. An entry of bad
parity is discarded without a report and the integrity monitor is told (R25). -/
def Device.takeDirective (d : Device) (k : DirectiveKind) (run : Device → Directive → Device) : Device :=
  match d.engine.current, d.engine.queue with
  | none, q :: _ =>
    if directiveKind q.directive.kind = k then
      if q.parityOk then run d.dequeued q.directive else d.dequeued.tellMonitor .queue 0
    else d
  | none, [] => d
  | some _, _ => d

/-- A track directive after check 1 of R27: checks 2 and 3, then its dispatch to the context of its slot (R27, R29, R172). -/
def Device.dispatch (d : Device) (x : Directive) (run : Slot → TrackContext → Device) : Device :=
  match d.engine.mode with
  | .bypass => d.refuse x .bypass
  | .normal =>
    match slotOfField x.slotField with
    | none => d.refuse x .badSlot
    | some t => d.readingTrack t (run t)

/-- What FLUSH TRACK, RETUNE TRACK and RESUME TRACK check first of a slot: it is neither FREE, nor LOADING, nor a
DESCRIPTION track (R48, R49, R52). A FAULTED DESCRIPTION track is therefore refused with WRONG KIND, where R53 names
STATE: the ordered checks come first (log entry 32). -/
def Device.onText (d : Device) (x : Directive) (c : TrackContext) (run : TextTrack → Device) : Device :=
  match c.state, c.body with
  | .free, _ => d.refuse x .notOpen
  | .loading, _ => d.refuse x .busy
  | _, .absent => d.refuse x .state
  | _, .description _ => d.refuse x .wrongKind
  | _, .text y => run y

/-- What they check next: the state is one of those the directive applies to (R48, R49, R52). -/
def Device.inState (d : Device) (x : Directive) (applies : Bool) (run : Device) : Device :=
  if applies then run else d.refuse x .state

/-- RUNNING or STALLED (R48, R49). -/
def TrackState.runsOrStalls : TrackState → Bool
  | .free => false
  | .loading => false
  | .running => true
  | .stalled => true
  | .degraded => false
  | .draining => false
  | .faulted => false

/-! ## OPEN TRACK (R37) -/

/-- The immediate part of OPEN TRACK (R37). -/
def Device.openTrack (d : Device) (x : Directive) (t : Slot) (c : TrackContext) : Device :=
  if c.state ≠ .free then d.refuse x .busy
  else if x.address1.toNat % 128 ≠ 0 then d.refuse x .address
  else
    d.setTrack t
      { TrackContext.freeContext with
        state := .loading
        opening := some x
        descriptorAddr := some x.address1
        fetch := some d.nextArrival }

/-- OPEN_TRACK (R37). -/
def execOpenTrack (s : State) : Host.Outcome State Fault Refusal :=
  s.ran fun d => d.takeDirective .openTrack fun e x => e.dispatch x (e.openTrack x)

/-! ## CLOSE TRACK (R44) -/

/-- A TEXT track enters DRAINING: the drain end is set and a close decision is made (R45, R110). The drain end reads the
active list, and a damaged entry ends the work without a change (R112). -/
def Device.drainText (d : Device) (t : Slot) (y : TextTrack) : Device :=
  match d.damagedActive t with
  | some i => d.tellMonitor .cue i
  | none => ((d.setText t { y with drainEnd := some (d.drainEndOf t y) }).setTrackState t .draining).decideClose t d

/-- A DESCRIPTION track enters DRAINING; with an empty schedule its drain is complete at once (R44, R46). DESIGN CHOICE (unsafe,
log entry 36): to see whether the schedule is empty, no clip pool entry is checked. -/
def Device.drainClips (d : Device) (t : Slot) (y : ClipTrack) (degraded : Bool) : Device :=
  ((d.setClips t { y with degradedMark := some degraded }).setTrackState t .draining).endDrain t

/-- The immediate part of CLOSE TRACK (R44). -/
def Device.closeTrack (d : Device) (x : Directive) (t : Slot) (c : TrackContext) : Device :=
  match c.state, c.body with
  | .free, _ => d.refuse x .notOpen
  | .loading, _ => d.refuse x .busy
  | .running, .text y => d.drainText t y
  | .running, .description y => d.drainClips t y false
  | .running, .absent => d.refuse x .state
  | .stalled, .text y => d.drainText t y
  | .stalled, .description _ => d.refuse x .state
  | .stalled, .absent => d.refuse x .state
  | .degraded, .description y => d.drainClips t y true
  | .degraded, .text _ => d.refuse x .state
  | .degraded, .absent => d.refuse x .state
  | .draining, _ => d.refuse x .state
  | .faulted, _ => d.refuse x .state

/-- CLOSE_TRACK (R44). -/
def execCloseTrack (s : State) : Host.Outcome State Fault Refusal :=
  s.ran fun d => d.takeDirective .closeTrack fun e x => e.dispatch x (e.closeTrack x)

/-! ## FLUSH TRACK (R48) -/

/-- F_T: the relative frame of the flush timecode, 0 where it is at or before the origin (R48, R61). -/
def flushFrameOf (r : RateSettings) (t : Timecode) : Nat :=
  (r.relative t).toNat

/-- Whether a flush timecode is refused: a field out of range, or a frame beyond the timeline limit (R48, R57, R64). -/
def badFlush (r : RateSettings) (t : Timecode) : Bool :=
  t.outOfRange r.code || beyondLimit r.code (r.relative t)

/-- A flush frame that takes effect (R48). -/
def Device.flushTo (d : Device) (t : Slot) (c : TrackContext) (y : TextTrack) (f : Nat) : Device :=
  let e := d.setText t { y with flushFrame := raiseTo f y.flushFrame }
  if c.state = .running then e.decideClose t d else e

/-- The immediate part of FLUSH TRACK (R48). -/
def Device.flushTrack (d : Device) (x : Directive) (t : Slot) (c : TrackContext) : Device :=
  d.onText x c fun y =>
    d.inState x c.state.runsOrStalls <|
      if badFlush y.settings.rate x.flushTimecode then d.refuse x .timecode
      else d.flushTo t c y (flushFrameOf y.settings.rate x.flushTimecode)

/-- FLUSH_TRACK (R48). -/
def execFlushTrack (s : State) : Host.Outcome State Fault Refusal :=
  s.ran fun d => d.takeDirective .flushTrack fun e x => e.dispatch x (e.flushTrack x)

/-! ## ABORT TRACK (R47) -/

/-- The immediate part of ABORT TRACK (R47). -/
def Device.abortTrack (d : Device) (x : Directive) (t : Slot) (c : TrackContext) : Device :=
  if c.state = .free then d.refuse x .notOpen else d.freeTrack t

/-- ABORT_TRACK (R47). -/
def execAbortTrack (s : State) : Host.Outcome State Fault Refusal :=
  s.ran fun d => d.takeDirective .abortTrack fun e x => e.dispatch x (e.abortTrack x)

/-! ## RETUNE TRACK (R49) -/

/-- The immediate part of RETUNE TRACK (R49). -/
def Device.retuneTrack (d : Device) (x : Directive) (t : Slot) (c : TrackContext) : Device :=
  d.onText x c fun y =>
    d.inState x c.state.runsOrStalls <|
      if x.retuneTuning.segmentLength = 0 ∨ 600 < x.retuneTuning.segmentLength then d.refuse x .segment
      else d.setText t { y with pendingRetune := some x.retuneTuning }

/-- RETUNE_TRACK (R49). -/
def execRetuneTrack (s : State) : Host.Outcome State Fault Refusal :=
  s.ran fun d => d.takeDirective .retuneTrack fun e x => e.dispatch x (e.retuneTrack x)

/-! ## RESUME TRACK (R52) -/

/-- The immediate part of RESUME TRACK (R52). -/
def Device.resumeDirective (d : Device) (x : Directive) (t : Slot) (c : TrackContext) : Device :=
  d.onText x c fun y =>
    d.inState x (decide (c.state = .stalled)) <|
      if y.slots.contains .empty then d.resumeTrack t y .resume d else d.refuse x .full

/-- RESUME_TRACK (R52). -/
def execResumeTrack (s : State) : Host.Outcome State Fault Refusal :=
  s.ran fun d => d.takeDirective .resumeTrack fun e x => e.dispatch x (e.resumeDirective x)

/-! ## SET REPORT RING (R30 to R32) -/

/-- The operands of SET REPORT RING pass their checks (R30). -/
def Directive.ringOk (x : Directive) : Bool :=
  decide (x.address1.toNat % 4096 = 0) && [4, 8, 12, 16].contains x.sizeKiB &&
    decide (x.address1.toNat + 1024 * x.sizeKiB ≤ 1099511627776)

/-- SET REPORT RING after check 1 of R27: the switch takes place now, or waits for the report in writing (R30, R31). -/
def Device.setReportRing (d : Device) (x : Directive) : Device :=
  if x.ringOk then
    match d.reports.writing with
    | none => d.switchRing x
    | some _ => { d with engine := { d.engine with current := some x } }
  else d.refuse x .ring

/-- SET_REPORT_RING (R30). -/
def execSetReportRing (s : State) : Host.Outcome State Fault Refusal :=
  s.ran fun d => d.takeDirective .setReportRing fun e x => e.setReportRing x

/-! ## CLEAR BYPASS (R33) -/

/-- CLEAR BYPASS after check 1 of R27 (R33, R177). -/
def Device.clearBypass (d : Device) (x : Directive) : Device :=
  match d.engine.mode with
  | .bypass => { d with engine := { d.engine with mode := .normal }, monitor := ⟨none, 0⟩ }
  | .normal => d.refuse x .notBypass

/-- CLEAR_BYPASS (R33). -/
def execClearBypass (s : State) : Host.Outcome State Fault Refusal :=
  s.ran fun d => d.takeDirective .clearBypass fun e x => e.clearBypass x

/-! ## A kind field that names no directive (R27) -/

/-- UNKNOWN_DIRECTIVE (R27). -/
def execUnknownDirective (s : State) : Host.Outcome State Fault Refusal :=
  s.ran fun d => d.takeDirective .unknown fun e x => e.refuse x .unknown

end Sys2Proof.Machine
end

