-- ==== Sys2Proof/Machine/Lane.lean ====
section
/-! DEFINITION. The commands of the mixer lanes: the expiry of the hold timer and the response to a sample read (spec 09). -/

namespace Sys2Proof.Machine

open Sys2Proof

/-- The hold timer of the held burst expires (R154). Without a held burst no timer runs. -/
def Device.timerExpires (d : Device) : Device :=
  match d.heldWrite with
  | none => d
  | some (t, _) => d.expireHold t

/-- HOLD_TIMER_EXPIRY (R154). -/
def execHoldTimerExpiry (s : State) : Host.Outcome State Fault Refusal :=
  s.ran Device.timerExpires

/-- A response to a sample read arrives (R17, R151). -/
def Device.prefetched (d : Device) (tag : Nat) (resp : Resp) (data : List Word) : Device :=
  match d.outstandingOf tag with
  | none => d
  | some o =>
    match o.purpose with
    | .throughRead _ _ => d
    | .throughWrite _ => d
    | .descriptor _ _ => d
    | .samples l => if dataFits o resp data then (d.answered tag).sampleResponse l o resp data else d
    | .record _ => d
    | .report => d

/-- PREFETCH_RESPONSE (R151). -/
def execPrefetchResponse (tag : Nat) (resp : Resp) (data : List Word) (s : State) : Host.Outcome State Fault Refusal :=
  s.ran fun d => d.prefetched tag resp data

end Sys2Proof.Machine
end

