-- ==== Sys2Proof/Machine/Power.lean ====
section
/-! DEFINITION. The two commands of the pin RESET_N (spec 11 section 11.1). -/

namespace Sys2Proof.Machine

open Sys2Proof

/-- RESET_ASSERT: RESET_N is low, and every block's state is dropped (R171, R19). -/
def execResetAssert (s : State) : Host.Outcome State Fault Refusal :=
  .next { s with dev := Device.held s.dev.nextTag }

/-- RESET_RELEASE: every block takes its value after reset, with the straps as sampled (R171). While RESET_N is high there is
no release, and the straps have no effect. -/
def execResetRelease (cwb : BitVec 16) (s : State) : Host.Outcome State Fault Refusal :=
  if s.dev.resetN then .next { s with dev := { s.dev with ports := [] } }
  else .next { s with dev := Device.released cwb s.dev.nextTag }

end Sys2Proof.Machine
end

