-- ==== Sys2Proof/Machine/Records.lean ====
section
/-! DEFINITION. The commands of the record writer and the report writer: responses to their bursts, and the start of a report
(spec 06 and 10). -/

namespace Sys2Proof.Machine

open Sys2Proof

/-- A response to a segment record burst arrives (R17, R104, R105). -/
def Device.recordWritten (d : Device) (tag : Nat) (resp : Resp) : Device :=
  match d.outstandingOf tag with
  | none => d
  | some o =>
    match o.purpose with
    | .throughRead _ _ => d
    | .throughWrite _ => d
    | .descriptor _ _ => d
    | .samples _ => d
    | .record t => (d.answered tag).recordResponse t o resp
    | .report => d

/-- RECORD_WRITE_RESPONSE (R104). -/
def execRecordWriteResponse (tag : Nat) (resp : Resp) (s : State) : Host.Outcome State Fault Refusal :=
  s.ran fun d => d.recordWritten tag resp

/-- REPORT_BEGIN (R164). -/
def execReportBegin (s : State) : Host.Outcome State Fault Refusal :=
  s.ran Device.beginReport

/-- A response to a report burst arrives (R17, R164, R165). -/
def Device.reportWritten (d : Device) (tag : Nat) (resp : Resp) : Device :=
  match d.outstandingOf tag with
  | none => d
  | some o =>
    match o.purpose with
    | .throughRead _ _ => d
    | .throughWrite _ => d
    | .descriptor _ _ => d
    | .samples _ => d
    | .record _ => d
    | .report => (d.answered tag).reportResponse tag resp

/-- REPORT_WRITE_RESPONSE (R164). -/
def execReportWriteResponse (tag : Nat) (resp : Resp) (s : State) : Host.Outcome State Fault Refusal :=
  s.ran fun d => d.reportWritten tag resp

end Sys2Proof.Machine
end

