-- ==== Sys2Proof/Machine/Tracks.lean ====
section
/-! DEFINITION. The track table's own event (spec 03): the response to a descriptor read, the checks of the descriptor, and the
taking of it. -/

namespace Sys2Proof.Machine

open Sys2Proof

/-! ## The checks of R39 -/

/-- Whether a ring is well placed: base and size multiples of 4096, the size in its range, the ring inside the address space
(R39). -/
def ringPlaced (base : Addr) (size lo hi : Nat) : Bool :=
  decide (base.toNat % 4096 = 0) && decide (size % 4096 = 0) && decide (lo ≤ size) && decide (size ≤ hi) &&
    decide (base.toNat + size ≤ 1099511627776)

/-- The placement of a descriptor's two rings (R39 check 6). -/
def ringsPlaced (kind : TrackKind) (bs : List Byte) : Bool :=
  ringPlaced (descriptorIntakeBase bs) (descriptorIntakeSize bs) 4096 65536 &&
    match kind with
    | .text => ringPlaced (descriptorOutputBase bs) (descriptorOutputSize bs) 16384 65536
    | .description => ringPlaced (descriptorOutputBase bs) (descriptorOutputSize bs) 65536 16777216

/-- The reserve check (R41). The slot being opened is LOADING and counts for nothing. -/
def Device.reserveFits (d : Device) (kind : TrackKind) (reserve : Nat) : Bool :=
  match kind with
  | .text => decide ((allSlots.map d.cueReserve).sum + reserve ≤ Config.cuePoolSize)
  | .description => decide ((allSlots.map d.clipReserve).sum + reserve ≤ Config.clipPoolSize)

/-- The lowest-numbered free lane (R42). -/
def Device.freeLane (d : Device) : Option LaneNo :=
  allLanes.find? fun l => (d.laneHolder l).isNone

/-- The overlap test of a descriptor's two rings (R4, R39 check 9). -/
def Device.ringsFree (d : Device) (bs : List Byte) : Bool :=
  d.rangeFree none (descriptorIntakeBase bs) (descriptorIntakeSize bs) &&
    d.rangeFree none (descriptorOutputBase bs) (descriptorOutputSize bs) &&
    !rangesOverlap (descriptorIntakeBase bs).toNat (descriptorIntakeSize bs) (descriptorOutputBase bs).toNat
      (descriptorOutputSize bs)

/-- The checks of a descriptor of a known kind, in order (R39 checks 2 to 9). -/
def Device.descriptorRefusal (d : Device) (kind : TrackKind) (bs : List Byte) : Option RefusalReason :=
  if 7 < descriptorRate bs then some .rate
  else if descriptorDropFrame bs ∧ descriptorRate bs ≠ 3 ∧ descriptorRate bs ≠ 6 then some .dropFrame
  else if (descriptorOrigin bs).outOfRange (descriptorRate bs) then some .origin
  else if kind = .text ∧ (descriptorSegmentLength bs = 0 ∨ 600 < descriptorSegmentLength bs) then some .segment
  else if !ringsPlaced kind bs then some .ring
  else if !d.reserveFits kind (descriptorReserve bs) then some .reserve
  else if kind = .description ∧ d.freeLane = none then some .noLane
  else if !d.ringsFree bs then some .overlap
  else none

/-! ## Taking a descriptor (R43) -/

/-- The rate settings of a descriptor, with its origin as an absolute frame count (R35, R61). -/
def descriptorRateSettings (bs : List Byte) : RateSettings where
  code := descriptorRate bs
  dropFrame := descriptorDropFrame bs
  origin := (descriptorOrigin bs).frames (descriptorRate bs) (descriptorDropFrame bs)

/-- The counters of a TEXT track at the entry into RUNNING (R43). -/
def TextCounters.zero : TextCounters :=
  ⟨0, 0, 0, 0, 0, 0, 0, 0, 0, 0, 0, 0, 0, 0, 0, 0, 0, 0, 0, 0, 0, 0⟩

/-- The counters of a DESCRIPTION track at the entry into RUNNING (R43). -/
def ClipCounters.zero : ClipCounters :=
  ⟨0, 0, 0, 0, 0, 0, 0, 0, 0, 0, 0, 0, 0, 0, 0, 0, 0, 0, 0, 0, 0, 0, 0, 0, false, false, false, false⟩

/-- A TEXT track at its entry into RUNNING (R43, R92, R93). -/
def TextTrack.opened (bs : List Byte) : TextTrack where
  settings := descriptorText bs (descriptorRateSettings bs)
  tuning := descriptorTuning bs
  pendingRetune := none
  flushFrame := none
  drainEnd := none
  horizon := none
  nextArrival := 0
  next := 0
  openStart := 0
  openLength := descriptorSegmentLength bs
  consume := 0
  slots := List.replicate (descriptorOutputSize bs / 1024) .empty
  records := []
  flight := none
  waitingClose := false
  counters := TextCounters.zero

/-- A DESCRIPTION track at its entry into RUNNING on a lane (R43, R128, R143). -/
def ClipTrack.opened (bs : List Byte) (lane : LaneNo) : ClipTrack where
  settings := descriptorClips bs (descriptorRateSettings bs)
  lane := lane
  degradedMark := none
  cursor := 0
  stagingBase := 0
  staged := []
  reads := []
  request := none
  held := none
  timer := .idle
  underruns := 0
  meter := Meter.begun
  counters := ClipCounters.zero

/-- The kind of a track's intake window (R2). -/
def TrackKind.intake : TrackKind → WindowKind
  | .text => .textIntake
  | .description => .clipIntake

/-- The kind of a track's output window (R2). -/
def TrackKind.output : TrackKind → WindowKind
  | .text => .index
  | .description => .mix

/-- Both windows of a track are installed (R4, R43). -/
def Device.installRings (d : Device) (t : Slot) (kind : TrackKind) (bs : List Byte) : Device :=
  (d.install (intakeEntry t) ⟨descriptorIntakeBase bs, descriptorIntakeSize bs, kind.intake, some t⟩).install
    (outputEntry t) ⟨descriptorOutputBase bs, descriptorOutputSize bs, kind.output, some t⟩

/-- Whether the origin of a descriptor is adjusted (R58). -/
def originAdjusted (bs : List Byte) : Bool :=
  (descriptorOrigin bs).isDropped (descriptorRate bs) (descriptorDropFrame bs)

/-- A descriptor is taken: the track enters RUNNING, its windows go live, and TRACK OPENED is posted (R43). -/
def Device.openAs (d : Device) (t : Slot) (x : Directive) (kind : TrackKind) (lane : Option LaneNo) (body : TrackBody)
    (bs : List Byte) : Device :=
  (((d.setTrack t { d.track t with state := .running, fetch := none, body := body }).installRings t kind bs)).post
    (.trackOpened t x.capture x.place kind lane (clampWord kind bs (originAdjusted bs)))

/-- An OPEN TRACK is refused after its fetch: the slot becomes FREE (R38, R39). -/
def Device.refuseOpen (d : Device) (t : Slot) (x : Directive) (reason : RefusalReason) : Device :=
  (d.setTrack t TrackContext.freeContext).refuse x reason

/-- A descriptor that passes every check is taken as its kind says (R42, R43). -/
def Device.takeDescriptor (d : Device) (t : Slot) (x : Directive) (kind : TrackKind) (bs : List Byte) : Device :=
  match kind with
  | .text => d.openAs t x .text none (.text (TextTrack.opened bs)) bs
  | .description =>
    match d.freeLane with
    | none => d.refuseOpen t x .noLane
    | some l => d.openAs t x .description (some l) (.description (ClipTrack.opened bs l)) bs

/-- A descriptor is validated and taken, or its OPEN TRACK refused (R39). -/
def Device.validate (d : Device) (t : Slot) (x : Directive) (bs : List Byte) : Device :=
  match descriptorKind bs with
  | none => d.refuseOpen t x .badKind
  | some kind =>
    match d.descriptorRefusal kind bs with
    | some reason => d.refuseOpen t x reason
    | none => d.takeDescriptor t x kind bs

/-- The descriptor response of a slot and a capture number (R38). One for a slot that is FREE, or LOADING for another OPEN
TRACK, is discarded. The context is read for it in either case, and is checked (R172): in BYPASS a damaged context of the
FREE slot is told to the monitor as a repeat (log entry 11). -/
def Device.descriptorAnswer (d : Device) (t : Slot) (capture : BitVec 16) (resp : Resp) (data : List Word) : Device :=
  d.readingTrack t fun c =>
    match c.state, c.opening with
    | .loading, some x =>
      if x.capture = capture then
        match resp with
        | .ok => d.validate t x (dataBytes data)
        | .error => d.refuseOpen t x .memoryError
      else d
    | .loading, none => d
    | .free, _ => d
    | .running, _ => d
    | .stalled, _ => d
    | .degraded, _ => d
    | .draining, _ => d
    | .faulted, _ => d

/-- A response to a descriptor read arrives (R17, R38). -/
def Device.descriptorArrives (d : Device) (tag : Nat) (resp : Resp) (data : List Word) : Device :=
  match d.outstandingOf tag with
  | none => d
  | some o =>
    match o.purpose with
    | .throughRead _ _ => d
    | .throughWrite _ => d
    | .descriptor t capture =>
      if dataFits o resp data then (d.answered tag).descriptorAnswer t capture resp data else d
    | .samples _ => d
    | .record _ => d
    | .report => d

/-- DESCRIPTOR_RESPONSE (R38). -/
def execDescriptorResponse (tag : Nat) (resp : Resp) (data : List Word) (s : State) : Host.Outcome State Fault Refusal :=
  s.ran fun d => d.descriptorArrives tag resp data

end Sys2Proof.Machine
end

