-- ==== Sys2Proof/Machine/Dispatch.lean ====
section
/-! DEFINITION. The effect of each command on everything but the queue of commands: one arm for each row of the table. -/

namespace Sys2Proof.Machine

open Sys2Proof

def exec (i : Instr) (s : State) : Host.Outcome State Fault Refusal :=
  match i with
  | .resetAssert => Sys2Proof.Machine.execResetAssert s
  | .resetRelease cwb => Sys2Proof.Machine.execResetRelease cwb s
  | .upstreamWrite id addr beats => Sys2Proof.Machine.execUpstreamWrite id addr beats s
  | .upstreamRead id addr count => Sys2Proof.Machine.execUpstreamRead id addr count s
  | .memoryGrant => Sys2Proof.Machine.execMemoryGrant s
  | .holdTimerExpiry => Sys2Proof.Machine.execHoldTimerExpiry s
  | .prefetchResponse tag resp data => Sys2Proof.Machine.execPrefetchResponse tag resp data s
  | .throughReadResponse tag resp data => Sys2Proof.Machine.execThroughReadResponse tag resp data s
  | .throughWriteResponse tag resp => Sys2Proof.Machine.execThroughWriteResponse tag resp s
  | .descriptorResponse tag resp data => Sys2Proof.Machine.execDescriptorResponse tag resp data s
  | .recordWriteResponse tag resp => Sys2Proof.Machine.execRecordWriteResponse tag resp s
  | .reportBegin => Sys2Proof.Machine.execReportBegin s
  | .reportWriteResponse tag resp => Sys2Proof.Machine.execReportWriteResponse tag resp s
  | .openTrack => Sys2Proof.Machine.execOpenTrack s
  | .closeTrack => Sys2Proof.Machine.execCloseTrack s
  | .flushTrack => Sys2Proof.Machine.execFlushTrack s
  | .abortTrack => Sys2Proof.Machine.execAbortTrack s
  | .retuneTrack => Sys2Proof.Machine.execRetuneTrack s
  | .resumeTrack => Sys2Proof.Machine.execResumeTrack s
  | .setReportRing => Sys2Proof.Machine.execSetReportRing s
  | .clearBypass => Sys2Proof.Machine.execClearBypass s
  | .unknownDirective => Sys2Proof.Machine.execUnknownDirective s

end Sys2Proof.Machine
end

