-- ==== Sys2Proof/Safety.lean ====
section
/-! DEFINITION. The terms of the statements: what they say of the state before a command, the spec's tables as they cite them,
and what a sound device is, each property of the part as a whole as a predicate on the device that every command is to
keep. -/

namespace Sys2Proof.Safety

open Sys2Proof Sys2Proof.Machine

/-! ## What statements about one command say of the state before it -/

/-- RESET_N is high, and the head of the write queue has been dealt with (R10). -/
def Awake (d : Device) : Prop :=
  d.resetN = true ∧ ∀ w ∈ d.writeQueue.head?, w.status ≠ .waiting

/-- The next event in which the directive engine takes a directive takes `x`, of kind `k` and of good parity (R25). -/
def Taking (d : Device) (k : DirectiveKind) (x : Directive) (rest : List QueuedDirective) : Prop :=
  d.resetN = true ∧ d.engine.current = none ∧ d.engine.queue = ⟨x, true⟩ :: rest ∧ directiveKind x.kind = k

/-- A track directive about to be taken passes the checks of R27 and names slot `t`, whose context has good parity. -/
def TakingFor (d : Device) (k : DirectiveKind) (x : Directive) (rest : List QueuedDirective) (t : Slot) : Prop :=
  Taking d k x rest ∧ d.engine.mode = .normal ∧ slotOfField x.slotField = some t ∧ (d.track t).parityOk = true

/-- The device from which a directive is carried out: its entry has left the queue, and nothing has shown at a port (R25). -/
def Taken (d : Device) (rest : List QueuedDirective) : Device :=
  { d with ports := [], engine := { d.engine with queue := rest } }

/-- A response that answers this burst arrives. -/
def Answering (d : Device) (tag : Nat) (o : Outstanding) (p : Purpose) : Prop :=
  d.resetN = true ∧ d.outstandingOf tag = some o ∧ o.purpose = p

/-- The device with a burst answered, and nothing shown at a port. -/
def Answered (d : Device) (tag : Nat) : Device :=
  { d with ports := [], outstanding := d.outstanding.filter fun o => o.tag != tag }

/-- Every block's state is dropped (R171). -/
def Dropped (d : Device) : Prop :=
  d.resetN = false ∧ d.attn = false ∧ (∀ i : EntryNo, d.windows[i.val] = none) ∧ d.writeQueue = [] ∧ d.readList = [] ∧
    d.presented = none ∧ d.outstanding = [] ∧ d.engine.queue = [] ∧ d.engine.current = none ∧
    (∀ t, d.track t = TrackContext.freeContext) ∧ (∀ i, d.cue i = none) ∧ (∀ i, d.clip i = none) ∧
    d.reports = ⟨none, [], none, 0⟩ ∧ d.monitor = ⟨none, 0⟩ ∧ d.ports = []

/-- The values after the release of RESET_N with these straps (R171, R19, R21, R35, R79, R120, R162, R172). -/
def AfterReset (d : Device) (cwb : BitVec 16) : Prop :=
  d.resetN = true ∧ d.attn = false ∧ d.strapLatch = cwb ∧
    (∀ i : EntryNo, d.windows[i.val] =
      if i = 0 then some ⟨⟨BitVec.ofNat 40 (cwb.toNat * 16777216), 4096, .control, none⟩, true⟩ else none) ∧
    d.writeQueue = [] ∧ d.readList = [] ∧ d.presented = none ∧ d.arbiter = ⟨0, 0, 0, 0⟩ ∧ d.outstanding = [] ∧
    d.engine = ⟨[], none, .normal, 0, 0⟩ ∧ (∀ t, d.track t = TrackContext.freeContext) ∧ (∀ i, d.cue i = none) ∧
    (∀ i, d.clip i = none) ∧ d.reports = ⟨none, [], none, 0⟩ ∧ d.monitor = ⟨none, 0⟩ ∧ d.ports = []

/-- The write queue after every match of a track's entry is removed: such a write has its original data, and a held one is ready
(R4, R11, R18, R174). -/
def revertedQueue (d : Device) : List QueuedWrite :=
  d.writeQueue.map fun w =>
    if ∃ m, w.found = some m ∧ 2 ≤ m.entry.val then
      { w with found := none, beats := w.original, status := if w.status = .held then .ready else w.status }
    else w

/-- `e` is what BYPASS entry makes of `d`, its write queue apart: the mode and the fault cause, the filtered directive queue, every
track FREE, the pools empty, the tables written afresh, BYPASS ENTERED posted and ATTN high (R34, R174, R175). -/
def EnteredBypass (d e : Device) (cause : ParityCause) (entry : Nat) : Prop :=
  e.engine = { d.engine with
      mode := .bypass
      queue := d.engine.queue.filter fun q => q.parityOk && (directiveKind q.directive.kind).inBypass } ∧
    e.monitor = ⟨some cause, d.monitor.repeatCount⟩ ∧
    (∀ t, e.track t = TrackContext.freeContext) ∧ (∀ i, e.cue i = none) ∧ (∀ i, e.clip i = none) ∧
    (∀ i : EntryNo, e.windows[i.val] =
      if i = 0 then some ⟨controlWindow d.strapLatch, true⟩
      else if i = 1 then d.reports.ring.map fun r => ⟨⟨r.base, r.size, .report, none⟩, true⟩
      else none) ∧
    e.reports = d.reports.posted (.bypassEntered
      { reason := cause
        isRepeat := false
        faultCause := some cause
        entry := entry
        left := d.tracks.toList.map TrackContext.state
        discarded := d.engine.queue.length -
          (d.engine.queue.filter fun q => q.parityOk && (directiveKind q.directive.kind).inBypass).length
        repeatCount := d.monitor.repeatCount }) ∧
    e.outstanding.map Outstanding.tag = d.outstanding.map Outstanding.tag ∧ e.attn = true

/-- What a parity error found in BYPASS posts: BYPASS ENTERED with the repeat flag set and the repeat count raised (R175, R176). -/
def repeatReport (d : Device) (cause : ParityCause) (entry : Nat) : Report :=
  .bypassEntered
    { reason := cause
      isRepeat := true
      faultCause := d.monitor.faultCause
      entry := entry
      left := List.replicate 16 .free
      discarded := 0
      repeatCount := min 255 (d.monitor.repeatCount + 1) }

/-- An upstream write of this burst is accepted while no window entry in use is damaged, and matches `m` (R3, R9). -/
def Writing (d : Device) (addr : Addr) (beats : List Beat) (m : WindowMatch) : Prop :=
  burstOk addr beats.length = true ∧ d.writeQueue.length < 16 ∧ d.engine.mode = .normal ∧ d.damagedWindows = [] ∧
    d.lookup addr = some m

/-- The device after a write has joined the tail of the write queue with its match, before the head is dealt with (R9). -/
def Joined (d : Device) (id : Nat) (addr : Addr) (beats : List Beat) (m : WindowMatch) : Device :=
  { d with
    ports := []
    nextArrival := d.nextArrival + 1
    writeQueue := d.writeQueue ++ [⟨id, addr, beats, beats, some m, d.nextArrival, .waiting⟩] }

/-- An upstream write hands intake slot `n` of track `t`, of good parity, over as a captured record: it covers the slot whole, and
the slot is not held (R6). -/
def Capturing (d : Device) (addr : Addr) (beats : List Beat) (m : WindowMatch) (t : Slot) (n : Nat) : Prop :=
  d.resetN = true ∧ Writing d addr beats m ∧ m.window.slot = some t ∧ wholeRecord 128 m.window.base addr beats = true ∧
    n = (addr.toNat - m.window.base.toNat) / 128 ∧ d.slotHeld t n = false ∧ (d.track t).parityOk = true

/-- An upstream write into an intake ring of track `t`, of good parity, is a partial write: it touches no held slot and covers none
whole (R6). -/
def WritingPart (d : Device) (addr : Addr) (beats : List Beat) (m : WindowMatch) (t : Slot) : Prop :=
  d.resetN = true ∧ Writing d addr beats m ∧ m.window.slot = some t ∧ wholeRecord 128 m.window.base addr beats = false ∧
    (∀ k, addr.toNat - m.window.base.toNat < 128 * (k + 1) →
      128 * k < addr.toNat - m.window.base.toNat + 8 * beats.length → d.slotHeld t k = false) ∧
    (d.track t).parityOk = true

/-- The device after the head write `w` is granted, with the queue behind it, before the new head is dealt with (R10, R12, R16). -/
def HeadGranted (d : Device) (w : QueuedWrite) (behind : List QueuedWrite) : Device :=
  { d with
    writeQueue := behind
    presented := none
    outstanding := d.outstanding ++ [⟨d.nextTag, .throughWrite w.id, w.addr, w.beats.length⟩]
    nextTag := d.nextTag + 1
    ports := [.issueWrite d.nextTag .throughPath w.addr w.beats]
    arbiter := { d.arbiter with grantCount := if d.ownWaiting then min 8 (d.arbiter.grantCount + 1) else 0 } }

/-- The command deals with a new head `v` of the write queue, on the device `d`: `v` is a mix write that arrives while the queue is
empty, or it stands behind the write that is granted (R10). -/
def DealsWith (s : State) (c : Instr) (d : Device) (v : QueuedWrite) (more : List QueuedWrite) : Prop :=
  s.dev.resetN = true ∧ d.writeQueue = v :: more ∧ v.status = .waiting ∧
    ((∃ id addr beats m, c = .upstreamWrite id addr beats ∧ s.dev.writeQueue = [] ∧ Writing s.dev addr beats m ∧
        m.window.kind = .mix ∧ d = Joined s.dev id addr beats m) ∨
      c = .memoryGrant ∧ s.dev.outstanding.length < 32 ∧ s.dev.winner = some .throughPath ∧
        s.dev.presented = some .write ∧ ∃ w, s.dev.writeQueue = w :: v :: more ∧ w.status = .ready ∧
          d = HeadGranted s.dev w (v :: more))

/-- The lane of track `t` holds the head write `w` with this mapping (R11, R154). -/
def Holding (d : Device) (t : Slot) (x : ClipTrack) (w : QueuedWrite) (rest : List QueuedWrite) (h : HeldMapping) : Prop :=
  d.writeQueue = w :: rest ∧ w.status = .held ∧ x.held = some h ∧
    ∃ m, w.found = some m ∧ m.window.kind = .mix ∧ m.window.slot = some t

/-- Sample `k` of clip entry `i` calls for a read: it lies at a wanted position, it is not staged, and no live read covers it
(R149, R150). -/
def NeedsRead (d : Device) (t : Slot) (x : ClipTrack) (i k : Nat) : Prop :=
  isWanted x.stagingBase (d.schedule t) i k = true ∧ x.isStaged i k = false ∧
    ∀ r ∈ x.reads, r.abandoned = false → r.clip = i → k < r.first ∨ r.first + r.count ≤ k

/-- The consume point of a TEXT track has advanced from `x` to `z`, after a trailer read of its slot `n` released this many cues: it
passes the CONSUMED slots up to k and empties them (R106, R108). -/
def Advanced (n : Nat) (x z : TextTrack) (released : Nat) : Prop :=
  z = { x with
      slots := z.slots
      consume := z.consume
      counters := { x.counters with cuesReleased := min 65535 (x.counters.cuesReleased + released) } } ∧
    x.consume < z.consume ∧ z.consume ≤ x.next ∧
    (∀ j, x.consume ≤ j → j < z.consume →
      (x.slots.set n .consumed)[j % x.slots.length]? = some .consumed ∧ z.slots[j % x.slots.length]? = some .empty) ∧
    (z.consume < x.next → (x.slots.set n .consumed)[z.consume % x.slots.length]? ≠ some .consumed) ∧
    ∀ i, (∀ j, x.consume ≤ j → j < z.consume → j % x.slots.length ≠ i) → z.slots[i]? = (x.slots.set n .consumed)[i]?

/-- The RETIRED cues of a track whose last record lies from `c` up to but not including `e` (R108). -/
def releasedCues (d : Device) (t : Slot) (c e : Nat) : List (Nat × CueEntry) :=
  (d.trackCues t).filter fun q =>
    match q.2.status with
    | .active => false
    | .retired k => decide (c ≤ k) && decide (k < e)

/-- The cues are those of `d` without the ones that an advance from `c` to `e` releases (R108). -/
def Released (d : Device) (t : Slot) (c e : Nat) (cue : Nat → Option CueEntry) : Prop :=
  ∀ i q, cue i = some q ↔ d.cue i = some q ∧ ¬(q.track = t ∧ ∃ k, q.status = .retired k ∧ c ≤ k ∧ k < e)

/-- A TEXT track after `n` closes, as far as its segments go: the first close takes a pending retune, segment k + 1 opens where
segment k ends, and each segment opened has the length of the tuning (R50, R65, R98 steps 6 and 7). -/
def openedAfter (x : TextTrack) (n : Nat) : TextTrack :=
  let tuning := x.pendingRetune.getD x.tuning
  if n = 0 then x
  else
    { x with
      tuning := tuning
      pendingRetune := none
      next := x.next + n
      openStart := x.openStart + x.openLength + (n - 1) * tuning.segmentLength
      openLength := tuning.segmentLength }

/-- A close decision for track `t` in state `st` makes `n` closes and carries the track from `x` to `z` and its cues from `old` to
`new` (R96 to R98, R50, R101). Each segment closed was due and found its slot EMPTY; its slot is WRITING, and its record, assembled
from the ACTIVE cues, joins the records. The decision ends at a segment that is not due, or at one that finds its slot not EMPTY
and waits, which is counted in RUNNING. An ACTIVE cue of the track that ends by a boundary closed is RETIRED, its last record the
first segment by whose end it ends; no other cue changes. -/
def ClosesMade (t : Slot) (st : TrackState) (active : List (Nat × CueEntry)) (x : TextTrack) (n : Nat) (z : TextTrack)
    (old new : Nat → Option CueEntry) : Prop :=
  (∀ j < n, (openedAfter x j).due st = true ∧ x.slots[(x.next + j) % x.slots.length]? = some .empty) ∧
  n ≤ x.slots.length ∧ z.slots.length = x.slots.length ∧
  (∀ j < n, z.slots[(x.next + j) % x.slots.length]? = some .writing) ∧
  (∀ i, (∀ j < n, (x.next + j) % x.slots.length ≠ i) → z.slots[i]? = x.slots[i]?) ∧
  z = { openedAfter x n with
    slots := z.slots
    records := x.records ++ (List.range n).map fun j => assemble t st (openedAfter x j) (active.map Prod.snd)
    flight := if n = 0 then x.flight else some (x.flight.getD ⟨0, 0, []⟩)
    waitingClose := z.waitingClose
    counters := z.counters } ∧
  (z.due st = false ∧ z.waitingClose = (decide (n = 0) && x.waitingClose) ∧ z.counters = x.counters ∨
    z.due st = true ∧ z.slots[z.next % z.slots.length]? ≠ some .empty ∧ z.waitingClose = true ∧
      z.counters =
        if st = .running then { x.counters with stalls := min 65535 (x.counters.stalls + 1) } else x.counters) ∧
  ∀ i, (old i = none → new i = none) ∧ ∀ c, old i = some c →
    (∀ j < n, c.track = t → c.status = .active → c.stop ≤ (openedAfter x (j + 1)).openStart →
      (j = 0 ∨ (openedAfter x j).openStart < c.stop) → new i = some { c with status := .retired (x.next + j) }) ∧
    ((c.track ≠ t ∨ c.status ≠ .active ∨ ∀ j < n, (openedAfter x (j + 1)).openStart < c.stop) → new i = some c)

/-- What one trailer read of report slot `n` makes of a ring: nothing of a slot that is not WRITTEN; a WRITTEN slot becomes CONSUMED,
and from the read point's slot the read point passes the CONSUMED slots up to w and empties them (R166). -/
def ReportConsumed (ring : ReportRing) (n : Nat) (q : ReportRing) : Prop :=
  (ring.slots[n]? ≠ some .written → q = ring) ∧
  (ring.slots[n]? = some .written →
    q.base = ring.base ∧ q.size = ring.size ∧ q.written = ring.written ∧
    (n ≠ ring.read % ring.slots.length → q.slots = ring.slots.set n .consumed ∧ q.read = ring.read) ∧
    (n = ring.read % ring.slots.length → ring.read < ring.written →
      ring.read < q.read ∧ q.read ≤ ring.written ∧
      (∀ j, ring.read ≤ j → j < q.read →
        (ring.slots.set n .consumed)[j % ring.slots.length]? = some .consumed ∧
          q.slots[j % ring.slots.length]? = some .empty) ∧
      (q.read < ring.written →
        (ring.slots.set n .consumed)[q.read % ring.slots.length]? ≠ some .consumed) ∧
      ∀ i, (∀ j, ring.read ≤ j → j < q.read → j % ring.slots.length ≠ i) →
        q.slots[i]? = (ring.slots.set n .consumed)[i]?))

/-! ## The spec's tables, as the statements cite them -/

/-- The six track directives with their commands (spec 12 section 12.2). -/
def trackCommands : List (DirectiveKind × Instr) :=
  [(.openTrack, .openTrack), (.closeTrack, .closeTrack), (.flushTrack, .flushTrack), (.abortTrack, .abortTrack),
    (.retuneTrack, .retuneTrack), (.resumeTrack, .resumeTrack)]

/-- Every directive kind with its command. -/
def directiveCommands : List (DirectiveKind × Instr) :=
  trackCommands ++ [(.setReportRing, .setReportRing), (.clearBypass, .clearBypass), (.unknown, .unknownDirective)]

/-- What FLUSH TRACK, RETUNE TRACK and RESUME TRACK are refused for before their own checks, in order, with the states of a
TEXT track that check 4 refuses (R48, R49, R52). -/
def textRefusal (c : TrackContext) (states : List TrackState) (r : RefusalReason) : Prop :=
  (c.state = .free ∧ r = .notOpen) ∨ (c.state = .loading ∧ r = .busy) ∨
    (c.state ≠ .free ∧ c.state ≠ .loading ∧ (∃ y, c.body = .description y) ∧ r = .wrongKind) ∨
    (c.state ∈ states ∧ (∃ y, c.body = .text y) ∧ r = .state)

/-- A ring fails a placement check under the size range of its kind (R39 check 6). -/
def misplaced (base : Addr) (size lo hi : Nat) : Prop :=
  base.toNat % 4096 ≠ 0 ∨ size % 4096 ≠ 0 ∨ size < lo ∨ hi < size ∨ 2 ^ 40 < base.toNat + size

/-- The origin of a descriptor is a dropped label (R58). -/
def originIsDropped (bs : List Byte) : Prop :=
  field bs 2 1 % 2 = 1 ∧ field bs 4 1 < (rateOf (field bs 1 1)).dropped ∧ field bs 5 1 = 0 ∧ field bs 6 1 % 10 ≠ 0

/-- A range meets a live window entry: each begins before the other ends (R4). -/
def meetsWindow (d : Device) (base : Addr) (size : Nat) : Prop :=
  ∃ i : EntryNo, ∃ e, d.windows[i.val] = some e ∧ base.toNat < e.window.base.toNat + e.window.size ∧
    e.window.base.toNat < base.toNat + size

/-- The nine checks of R39 in order, each with the condition under which it fails, for the bytes of a descriptor. -/
def descriptorChecks (d : Device) (bs : List Byte) : List (RefusalReason × Prop) :=
  [ (.badKind, field bs 0 1 ≠ 1 ∧ field bs 0 1 ≠ 2),
    (.rate, 7 < field bs 1 1),
    (.dropFrame, field bs 2 1 % 2 = 1 ∧ field bs 1 1 ≠ 3 ∧ field bs 1 1 ≠ 6),
    (.origin, 23 < field bs 7 1 ∨ 59 < field bs 6 1 ∨ 59 < field bs 5 1 ∨ (rateOf (field bs 1 1)).nominal ≤ field bs 4 1),
    (.segment, field bs 0 1 = 1 ∧ (field bs 48 2 = 0 ∨ 600 < field bs 48 2)),
    (.ring, misplaced (addrField bs 8) (field bs 16 4) 4096 65536 ∨
      (field bs 0 1 = 1 ∧ misplaced (addrField bs 24) (field bs 20 4) 16384 65536) ∨
      (field bs 0 1 = 2 ∧ misplaced (addrField bs 24) (field bs 20 4) 65536 16777216)),
    (.reserve, (field bs 0 1 = 1 ∧ 256 < (allSlots.map d.cueReserve).sum + field bs 32 2) ∨
      (field bs 0 1 = 2 ∧ 64 < (allSlots.map d.clipReserve).sum + field bs 32 2)),
    (.noLane, field bs 0 1 = 2 ∧ ∀ l : LaneNo, ∃ t x, (d.track t).clips = some x ∧ x.lane = l),
    (.overlap, meetsWindow d (addrField bs 8) (field bs 16 4) ∨ meetsWindow d (addrField bs 24) (field bs 20 4) ∨
      ((addrField bs 8).toNat < (addrField bs 24).toNat + field bs 20 4 ∧
        (addrField bs 24).toNat < (addrField bs 8).toNat + field bs 16 4)) ]

/-- A timecode with a field out of range for a rate (R57). -/
def badLabel (code : Nat) (t : Timecode) : Prop :=
  23 < t.hh ∨ 59 < t.mm ∨ 59 < t.ss ∨ (rateOf code).nominal ≤ t.ff

/-- The reasons for which a cue record is dropped, in the order of the intake steps, each with the condition under which it
applies, whether the cue is counted as timecode-adjusted, and what CUE DROPPED carries (R74 to R80, R83, R90). -/
def cueDrops (d : Device) (t : Slot) (x : TextTrack) (n : Nat) (r : CueRecord) : List (Prop × Bool × CueDrop) :=
  let code := x.settings.rate.code
  let df := x.settings.rate.dropFrame
  let first := r.start.frames code df
  let last := r.stop.frames code df
  let adjusted := r.start.isDropped code df || r.stop.isDropped code df
  let from0 := first - x.settings.rate.origin
  let to0 := last - x.settings.rate.origin
  let start := max from0 x.openStart
  let stop := max to0 (start + x.settings.minDuration)
  let flags := { CueFlags.noFlags with
    lateShifted := decide (from0 < x.openStart)
    extended := decide (to0 < start + x.settings.minDuration) }
  let drop (reason : DropReason) (detail : DropDetail) (times : Option DropTimes) : CueDrop :=
    ⟨reason, detail, n, r.hostId, times, CueFlags.noFlags, none, none, none⟩
  [ (r.kind ≠ 1, false, drop .malformed .kind none),
    (r.textLength = 0 ∨ 96 < r.textLength, false, drop .malformed .length none),
    (3 < r.text.count 0x0A, false, drop .malformed .lines none),
    (2 < r.anchor, false, drop .malformed .anchor none),
    (badLabel code r.start ∨ badLabel code r.stop, false, drop .malformed .timecode none),
    (last ≤ first, adjusted, drop .malformed .order none),
    (last ≤ x.settings.rate.origin, adjusted, drop .malformed .beforeOrigin (some ⟨first, last, true⟩)),
    (4151263199 < ticks code to0, adjusted, drop .malformed .timecode (some ⟨first, last, true⟩)),
    (from0 < x.openStart ∧ (to0 ≤ x.openStart ∨ x.tuning.late = .drop), adjusted,
      { drop .late .none (some ⟨from0, to0, false⟩) with openStart := some x.openStart }),
    (x.settings.reserve ≤ (d.trackCues t).length ∧ 256 - d.cuesInUse ≤ d.cuesOwed t, adjusted,
      { drop .pool .none (some ⟨start, stop, false⟩) with
        flags := flags
        pool := some ⟨(d.trackCues t).length, x.settings.reserve, 256 - d.cuesInUse⟩ }),
    (d.cuesInUse < 256 ∧ ∀ row ∈ candidateRows r.anchor r.anchorRow r.height, ∃ q ∈ d.activeCues t, q.2.start < stop ∧
        start < q.2.stop ∧ q.2.row < row + r.height ∧ row < q.2.row + q.2.height, adjusted,
      { drop .noRoom .none (some ⟨start, stop, false⟩) with
        flags := { flags with moved := decide (r.anchor = 2 ∧ 16 - r.height < r.anchorRow) }
        heightAnchor := some (r.height, r.anchor) }) ]

/-- The device with a cue dropped: it is counted for its reason, and CUE DROPPED is posted (R90, R91). -/
def cueDropped (d : Device) (t : Slot) (x : TextTrack) (adjusted : Bool) (drop : CueDrop) : Device :=
  let more (b : Bool) (n : Nat) : Nat := if b then min 65535 (n + 1) else n
  { d.setTrack t { d.track t with
      body := .text { x with
        counters := { x.counters with
          captured := min 65535 (x.counters.captured + 1)
          timecodeAdjusted := more adjusted x.counters.timecodeAdjusted
          droppedMalformed := more (drop.reason = .malformed) x.counters.droppedMalformed
          droppedLate := more (drop.reason = .late) x.counters.droppedLate
          droppedNoRoom := more (drop.reason = .noRoom) x.counters.droppedNoRoom
          droppedPool := more (drop.reason = .pool) x.counters.droppedPool
          droppedDraining := more (drop.reason = .draining) x.counters.droppedDraining } } } with
    reports := d.reports.posted (.cueDropped t drop) }

/-- The start tick that a clip record asks for on a track (R118). -/
def wantedTick (x : ClipTrack) (r : ClipRecord) : Nat :=
  ticks x.settings.rate.code
    (r.start.frames x.settings.rate.code x.settings.rate.dropFrame - x.settings.rate.origin)

/-- The reasons for which a clip record is dropped before it is placed, in the order of the intake steps, each with the condition
under which it applies, whether the clip is counted as timecode-adjusted, and what CLIP DROPPED carries (R117 to R119, R121,
R127). -/
def clipDrops (d : Device) (t : Slot) (x : ClipTrack) (n : Nat) (r : ClipRecord) : List (Prop × Bool × ClipDrop) :=
  let code := x.settings.rate.code
  let adjusted := r.start.isDropped code x.settings.rate.dropFrame
  let wanted := wantedTick x r
  let drop (reason : DropReason) (detail : DropDetail) (times : Option (Nat × Nat)) : ClipDrop :=
    ⟨reason, detail, n, r.hostId, times, none, none, none⟩
  [ (r.kind ≠ 2, false, drop .malformed .kind none),
    (r.duration = 0 ∨ 4800000 < r.duration, false, drop .malformed .duration none),
    (r.address.toNat % 2 = 1 ∨ 2 ^ 40 < r.address.toNat + 2 * r.duration, false, drop .malformed .address none),
    (32768 < r.level ∧ r.level ≠ 65535, false, drop .malformed .level none),
    (3 < r.mode, false, drop .malformed .mode none),
    (r.mode = 0 ∧ 32768 < r.fixedGain, false, drop .malformed .gain none),
    (badLabel code r.start, false, drop .malformed .timecode none),
    (r.start.frames code x.settings.rate.dropFrame < x.settings.rate.origin, adjusted,
      drop .malformed .beforeOrigin none),
    (4151263199 < wanted + r.duration + 48 * x.settings.tail, adjusted, drop .malformed .timecode none),
    (wanted < x.cursor, adjusted,
      { drop .late .none (some (wanted, wanted + r.duration)) with cursor := some x.cursor }),
    (x.settings.reserve ≤ (d.trackClips t).length ∧ 64 - d.clipsInUse ≤ d.clipsOwed t, adjusted,
      { drop .pool .none (some (wanted, wanted + r.duration)) with
        pool := some ⟨(d.trackClips t).length, x.settings.reserve, 64 - d.clipsInUse⟩ }) ]

/-- The device with a clip dropped: it is counted for its reason, and CLIP DROPPED is posted (R127). -/
def clipDropped (d : Device) (t : Slot) (x : ClipTrack) (adjusted : Bool) (drop : ClipDrop) : Device :=
  let more (b : Bool) (n : Nat) : Nat := if b then min 65535 (n + 1) else n
  { d.setTrack t { d.track t with
      body := .description { x with
        counters := { x.counters with
          captured := min 65535 (x.counters.captured + 1)
          timecodeAdjusted := more adjusted x.counters.timecodeAdjusted
          droppedMalformed := more (drop.reason = .malformed) x.counters.droppedMalformed
          droppedLate := more (drop.reason = .late) x.counters.droppedLate
          droppedPool := more (drop.reason = .pool) x.counters.droppedPool
          droppedDraining := more (drop.reason = .draining) x.counters.droppedDraining
          collisions := more (drop.detail = .collision) x.counters.collisions } } } with
    reports := d.reports.posted (.clipDropped t drop) }

/-- The label after a label that is used, in the order of R60: the next frame, second, minute or hour, past the dropped labels. -/
def nextLabel (code : Nat) (t : Timecode) : Timecode :=
  if t.ff + 1 < (rateOf code).nominal then { t with ff := t.ff + 1 }
  else if t.ss < 59 then { t with ss := t.ss + 1, ff := 0 }
  else if t.mm < 59 then
    { t with mm := t.mm + 1, ss := 0, ff := if (t.mm + 1) % 10 = 0 then 0 else (rateOf code).dropped }
  else ⟨t.hh + 1, 0, 0, 0⟩

/-- The numbers N and D of the rate codes (R56). -/
def rateTable : List (Nat × Nat × Nat) :=
  [(0, 24000, 1001), (1, 24, 1), (2, 25, 1), (3, 30000, 1001), (4, 30, 1), (5, 50, 1), (6, 60000, 1001), (7, 60, 1)]

/-! ## Invariants -/

/-- The queues and counts stay within the sizes of R9, R12, R15, R16, R21, R24, R162 and R172. -/
def Bounded (d : Device) : Prop :=
  d.writeQueue.length ≤ Config.writeQueueDepth ∧ d.readList.length ≤ Config.readListDepth ∧
    d.outstanding.length ≤ Config.outstandingLimit ∧ d.arbiter.grantCount ≤ Config.starvationBound ∧
    d.engine.queue.length ≤ Config.directiveQueueDepth ∧ d.engine.partialWrites ≤ Config.countLimit ∧
    d.reports.queue.length ≤ Config.postQueueDepth ∧ d.reports.lost ≤ Config.countLimit ∧
    d.monitor.repeatCount ≤ 255

/-- ATTN stands at the level that the mode, the report slots and RESET_N give it (R167, R171). -/
def AttnFollows (d : Device) : Prop :=
  d.attn = d.attnLevel

/-- In BYPASS no track slot is other than FREE, and the pools hold nothing (R174, R176). -/
def BypassClear (d : Device) : Prop :=
  d.engine.mode = .bypass →
    (∀ t : Slot, d.track t = TrackContext.freeContext) ∧ (∀ i, d.cue i = none) ∧ (∀ i, d.clip i = none)

/-- The head of the write queue has been dealt with, and no entry behind it has (R10, R11). -/
def QueueInOrder (d : Device) : Prop :=
  (∀ w ∈ d.writeQueue.head?, w.status ≠ .waiting) ∧ ∀ w ∈ d.writeQueue.tail, w.status = .waiting

/-- The window of a live entry (R2). -/
def liveWindow (d : Device) (i : EntryNo) : Option Window :=
  (d.windows[i.val]).map WindowEntry.window

/-- The window table: entry 0 is the control window while RESET_N is high, entry 1 is the report ring where one is set, and no
two live entries share a byte (R2, R4, R20, R162). -/
def WindowsSound (d : Device) : Prop :=
  (d.resetN = true → liveWindow d 0 = some (controlWindow d.strapLatch)) ∧
    liveWindow d 1 = d.reports.ring.map (fun r => ⟨r.base, r.size, .report, none⟩) ∧
    ∀ i j : EntryNo, ∀ v w : Window, i ≠ j → liveWindow d i = some v → liveWindow d j = some w →
      rangesOverlap v.base.toNat v.size w.base.toNat w.size = false

/-- No two ACTIVE cues of one track share a row during a common frame, and each lasts at least a frame (R83). -/
def ScreenSound (d : Device) : Prop :=
  (∀ i c, d.cue i = some c → c.status = .active → c.start < c.stop) ∧
    ∀ i j a b, i ≠ j → d.cue i = some a → d.cue j = some b → a.track = b.track → a.status = .active →
      b.status = .active → bandsMeet a.row a.height b.row b.height = true → a.stop ≤ b.start ∨ b.stop ≤ a.start

/-- An intake slot is held by one pool entry at most (R79, R120). -/
def HoldsUnique (d : Device) : Prop :=
  (∀ i j a b, i ≠ j → d.cue i = some a → d.cue j = some b → a.track = b.track → a.intakeSlot ≠ b.intakeSlot) ∧
    ∀ i j a b, i ≠ j → d.clip i = some a → d.clip j = some b → a.track = b.track → a.intakeSlot ≠ b.intakeSlot

/-- The clips on one track's schedule never overlap in [s, e) (R122). -/
def ScheduleSound (d : Device) : Prop :=
  (∀ i c, d.clip i = some c → c.start < c.stop) ∧
    ∀ i j a b, i ≠ j → d.clip i = some a → d.clip j = some b → a.track = b.track →
      a.stop ≤ b.start ∨ b.stop ≤ a.start

/-- The report ring: r does not pass w, and what is unread, in writing and queued fits into it; a SET REPORT RING that waits has
passed its checks (R30, R162, R163). -/
def RingFits (d : Device) : Prop :=
  (∀ x, d.engine.current = some x → x.ringOk = true) ∧ d.reports.queue.length ≤ Config.postQueueDepth ∧
    ∀ r, d.reports.ring = some r →
      r.slots.length = r.slotCount ∧ Config.postQueueDepth ≤ r.slotCount ∧ r.read ≤ r.written ∧
        r.written - r.read + (if d.reports.writing.isSome then 1 else 0) + d.reports.queue.length ≤ r.slotCount

/-- A slot's kind and the state of its blocks are present exactly in the states that hold a pool; STALLED belongs to TEXT
tracks and DEGRADED to DESCRIPTION tracks alone (R35, R36, R41). -/
def TracksShaped (d : Device) : Prop :=
  ∀ t : Slot, ((d.track t).state.holdsPool = false ↔ (d.track t).body = .absent) ∧
    ((d.track t).state = .stalled → (d.track t).text.isSome = true) ∧
    ((d.track t).state = .degraded → (d.track t).clips.isSome = true)

/-- Each mixer lane is held by one track at most (R42). -/
def LanesUnique (d : Device) : Prop :=
  ∀ t u x y, t ≠ u → (d.track t).clips = some x → (d.track u).clips = some y → x.lane ≠ y.lane

/-- The reserves of the tracks that hold a pool fit into it (R41). -/
def ReservesFit (d : Device) : Prop :=
  (allSlots.map d.cueReserve).sum ≤ Config.cuePoolSize ∧ (allSlots.map d.clipReserve).sum ≤ Config.clipPoolSize

/-- The mix cursor of every track that is open before and after has not gone back (R148). -/
def CursorsAdvance (d e : Device) : Prop :=
  ∀ t x y, (d.track t).clips = some x → (e.track t).clips = some y → x.cursor ≤ y.cursor

end Sys2Proof.Safety
end

