-- ==== Sys2Proof/Certificates/Slice0/Obligations.lean ====
section
/-! DEFINITION. The statements for the provers. Each names the spec's rules or sections that it formalises. -/

open Sys2Proof Sys2Proof.Machine Sys2Proof.Safety

/-! ## The step, reset and RESET_N -/

/-- A step runs the command at the front of the queue on the device with the queue's rest. On an empty queue the block idles:
that is the model's choice (log entry 3). -/
def Obligations.StepRunsFrontCommand : Prop :=
  (∀ (c : Instr) (rest : List Instr) (d : Device),
    step { pending := c :: rest, dev := d } = exec c { pending := rest, dev := d }) ∧
  ∀ d : Device, step { pending := [], dev := d } = .next { pending := [], dev := d }

/-- The state after reset (R171's table; the strap value 0 is the model's choice, log entry 1), which meets every invariant of the
last section. -/
def Obligations.ResetStateMeetsTheInvariants : Prop :=
  State.reset.pending = [] ∧ AfterReset State.reset.dev 0 ∧
    Bounded State.reset.dev ∧ AttnFollows State.reset.dev ∧ BypassClear State.reset.dev ∧ QueueInOrder State.reset.dev ∧
    WindowsSound State.reset.dev ∧ ScreenSound State.reset.dev ∧ HoldsUnique State.reset.dev ∧
    ScheduleSound State.reset.dev ∧ RingFits State.reset.dev ∧ TracksShaped State.reset.dev ∧
    LanesUnique State.reset.dev ∧ ReservesFit State.reset.dev

/-- RESET_N falling drops every block's state; while it is low no burst is accepted and none is issued; its release samples the
straps once and gives every block its value after reset (R171). That a release while RESET_N is high changes nothing is the
model's choice (log entries 2 and 26), and so is it that every response whose identifier is not outstanding is discarded, those to
bursts from before a reset, of which R171 speaks, among them (log entry 5). -/
def Obligations.ResetDropsAndReleases : Prop :=
  (∀ s : State, ∃ e, exec .resetAssert s = .next { s with dev := e } ∧ Dropped e) ∧
  (∀ (s : State) (c : Instr), s.dev.resetN = false → c.wellFormed = true → c ≠ .resetAssert →
    (∀ w, c ≠ .resetRelease w) →
    ∃ p, exec c s = .next { s with dev := { s.dev with ports := p } } ∧ ∀ q ∈ p, ∃ id, q = .notAccepted id) ∧
  (∀ (s : State) (w : BitVec 16), s.dev.resetN = false →
    ∃ e, exec (.resetRelease w) s = .next { s with dev := e } ∧ AfterReset e w) ∧
  (∀ (s : State) (w : BitVec 16), s.dev.resetN = true →
    exec (.resetRelease w) s = .next { s with dev := { s.dev with ports := [] } }) ∧
  ∀ (s : State) (tag : Nat) (resp : Resp) (data : List Word), s.dev.resetN = true → s.dev.outstandingOf tag = none →
    ∀ c ∈ [Instr.throughReadResponse tag resp data, .throughWriteResponse tag resp, .prefetchResponse tag resp data,
      .descriptorResponse tag resp data, .recordWriteResponse tag resp, .reportWriteResponse tag resp],
    exec c s = .next { s with dev := Device.settle { s.dev with ports := [] } }

/-! ## The through-path -/

/-- An unmatched write joins the tail of the write queue with its data as received, and is ready at once if it is the head; with
16 writes queued the port does not accept it. The responses to a forwarded write and to a read that is not watched are relayed
to their issuers, OK or ERROR, and so is an ERROR to any read; nothing else changes (R1, R8, R9, R10). -/
def Obligations.UnmatchedBurstsAreForwarded : Prop :=
  (∀ (s : State) (id : Nat) (addr : Addr) (beats : List Beat), Awake s.dev → burstOk addr beats.length = true →
    s.dev.damagedWindows = [] → s.dev.lookup addr = none →
    exec (.upstreamWrite id addr beats) s = .next { s with dev := Device.settle (
      if s.dev.writeQueue.length < 16 then
        { s.dev with
          ports := []
          nextArrival := s.dev.nextArrival + 1
          writeQueue := s.dev.writeQueue ++
            [⟨id, addr, beats, beats, none, s.dev.nextArrival, if s.dev.writeQueue.isEmpty then .ready else .waiting⟩] }
      else { s.dev with ports := [.notAccepted id] }) }) ∧
  (∀ (s : State) (tag id : Nat) (o : Outstanding) (resp : Resp), Answering s.dev tag o (.throughWrite id) →
    exec (.throughWriteResponse tag resp) s = .next { s with dev := Device.settle (
      { Answered s.dev tag with ports := [.answerWrite id resp] }) }) ∧
  ∀ (s : State) (tag id : Nat) (o : Outstanding) (found : Option WindowMatch) (resp : Resp) (data : List Word),
    Answering s.dev tag o (.throughRead id found) →
    (resp = .error ∨ data.length = o.count ∧ found = none) →
    exec (.throughReadResponse tag resp data) s = .next { s with dev := Device.settle (
      { Answered s.dev tag with ports := [.answerRead id resp data] }) }

/-- A write is fenced that matches an INDEX entry, matches the REPORT entry, or touches a held intake slot. It is answered ERROR
at once, FENCED WRITE is posted with its items, and nothing else of the part changes. In BYPASS none is fenced (R6, R7, R18). That
a write touches the slots of its whole address range, whatever its strobes, is the model's reading (log entry 14). -/
def Obligations.FencedWriteIsAnsweredError : Prop :=
  (∀ (s : State) (id : Nat) (addr : Addr) (beats : List Beat), Awake s.dev → burstOk addr beats.length = true →
    s.dev.writeQueue.length < 16 → s.dev.engine.mode = .bypass → s.dev.damagedWindows = [] →
    ∃ e, exec (.upstreamWrite id addr beats) s = .next { s with dev := e } ∧ e.ports = []) ∧
  ∀ (s : State) (id : Nat) (addr : Addr) (beats : List Beat) (m : WindowMatch) (held : Option Nat),
    Awake s.dev → burstOk addr beats.length = true → s.dev.writeQueue.length < 16 → s.dev.engine.mode = .normal →
    s.dev.damagedWindows = [] → s.dev.lookup addr = some m →
    ((m.window.kind = .index ∨ m.window.kind = .report) ∧ held = none ∨
      (m.window.kind = .textIntake ∨ m.window.kind = .clipIntake) ∧ ∃ t n, m.window.slot = some t ∧ held = some n ∧
        s.dev.slotHeld t n = true ∧ 128 * n < addr.toNat - m.window.base.toNat + 8 * beats.length ∧
        addr.toNat - m.window.base.toNat < 128 * (n + 1) ∧
        ∀ k < n, addr.toNat - m.window.base.toNat < 128 * (k + 1) → s.dev.slotHeld t k = false) →
    exec (.upstreamWrite id addr beats) s = .next { s with dev := Device.settle (
      { s.dev with
        ports := [.answerWrite id .error]
        reports := s.dev.reports.posted (.fencedWrite m.window.slot m.window.kind addr beats.length held) }) }

/-- R22 and R23: a captured directive is given the next capture number, which advances modulo 65536. It joins the tail of a
queue of fewer than 8 entries with its fields, its directive slot number, its capture number and fresh parity, in both device
modes and both engine states. With 8 entries it is lost: the queue is unchanged and DIRECTIVE REFUSED is posted with reason QUEUE
FULL. Its write joins the write queue like an unmatched one. R24: a partial write into the control window adds 1 to the
partial-write count, which stays at 65535; every DIRECTIVE REFUSED carries the count as it stands at posting, and the count then
is 0 whether or not the report is kept. -/
def Obligations.ControlWindowWritesAreCaptured : Prop :=
  (∀ (s : State) (id : Nat) (addr : Addr) (beats : List Beat) (m : WindowMatch),
    Awake s.dev → burstOk addr beats.length = true → s.dev.writeQueue.length < 16 → s.dev.damagedWindows = [] →
    s.dev.lookup addr = some m → m.window.kind = .control → wholeRecord 64 m.window.base addr beats = true →
    s.dev.engine.queue.length < 8 →
    exec (.upstreamWrite id addr beats) s = .next { s with dev := Device.settle (
      { s.dev with
        ports := []
        nextArrival := s.dev.nextArrival + 1
        writeQueue := s.dev.writeQueue ++
          [⟨id, addr, beats, beats, some m, s.dev.nextArrival, if s.dev.writeQueue.isEmpty then .ready else .waiting⟩]
        engine := { s.dev.engine with
          nextCapture := s.dev.engine.nextCapture + 1
          queue := s.dev.engine.queue ++
            [⟨parseDirective (beatsBytes beats) ((addr.toNat - m.window.base.toNat) / 64) s.dev.engine.nextCapture,
              true⟩] } }) }) ∧
  (∀ (s : State) (id : Nat) (addr : Addr) (beats : List Beat) (m : WindowMatch) (x : Directive),
    Awake s.dev → burstOk addr beats.length = true → s.dev.writeQueue.length < 16 → s.dev.damagedWindows = [] →
    s.dev.lookup addr = some m → m.window.kind = .control → wholeRecord 64 m.window.base addr beats = true →
    8 ≤ s.dev.engine.queue.length →
    x = parseDirective (beatsBytes beats) ((addr.toNat - m.window.base.toNat) / 64) s.dev.engine.nextCapture →
    exec (.upstreamWrite id addr beats) s = .next { s with dev := Device.settle (
      { s.dev with
        ports := []
        nextArrival := s.dev.nextArrival + 1
        writeQueue := s.dev.writeQueue ++
          [⟨id, addr, beats, beats, some m, s.dev.nextArrival, if s.dev.writeQueue.isEmpty then .ready else .waiting⟩]
        engine := { s.dev.engine with nextCapture := s.dev.engine.nextCapture + 1, partialWrites := 0 }
        reports := s.dev.reports.posted
          (.directiveRefused x.headerSlot .queueFull x s.dev.engine.partialWrites) }) }) ∧
  (∀ (s : State) (id : Nat) (addr : Addr) (beats : List Beat) (m : WindowMatch),
    Awake s.dev → burstOk addr beats.length = true → s.dev.writeQueue.length < 16 → s.dev.damagedWindows = [] →
    s.dev.lookup addr = some m → m.window.kind = .control → wholeRecord 64 m.window.base addr beats = false →
    exec (.upstreamWrite id addr beats) s = .next { s with dev := Device.settle (
      { s.dev with
        ports := []
        nextArrival := s.dev.nextArrival + 1
        writeQueue := s.dev.writeQueue ++
          [⟨id, addr, beats, beats, some m, s.dev.nextArrival, if s.dev.writeQueue.isEmpty then .ready else .waiting⟩]
        engine := { s.dev.engine with partialWrites := min 65535 (s.dev.engine.partialWrites + 1) } }) }) ∧
  ∀ (d : Device) (x : Directive) (r : RefusalReason),
    d.refuse x r =
      { d with
        reports := d.reports.posted (.directiveRefused x.headerSlot r x d.engine.partialWrites)
        engine := { d.engine with partialWrites := 0 } }

/-- In BYPASS no write is fenced, held or rewritten: an accepted one joins the queue with the data as received, whatever it
matches, and no ERROR answers it (R3, R18, R176). -/
def Obligations.BypassForwardsEveryWrite : Prop :=
  ∀ (s : State) (id : Nat) (addr : Addr) (beats : List Beat), Awake s.dev → burstOk addr beats.length = true →
    s.dev.writeQueue.length < 16 → s.dev.engine.mode = .bypass → s.dev.damagedWindows = [] →
    ∃ e found, exec (.upstreamWrite id addr beats) s = .next { s with dev := e } ∧ e.ports = [] ∧
      e.writeQueue = s.dev.writeQueue ++
        [⟨id, addr, beats, beats, found, s.dev.nextArrival, if s.dev.writeQueue.isEmpty then .ready else .waiting⟩] ∧
      (∀ t, e.track t = s.dev.track t) ∧ e.cuePool = s.dev.cuePool ∧ e.clipPool = s.dev.clipPool ∧
      e.windows = s.dev.windows ∧ e.readList = s.dev.readList ∧ e.outstanding = s.dev.outstanding

/-- A read joins the read list with the match that its watch needs: that of an INDEX entry in NORMAL mode or of the REPORT entry,
if it covers a trailer beat; with 16 reads listed the port does not accept it. A read waits exactly for the writes that were
queued before it and share a byte with it (R3, R8, R12, R13). -/
def Obligations.ReadJoinsTheReadList : Prop :=
  (∀ (s : State) (id : Nat) (addr : Addr) (count : Nat), s.dev.resetN = true → burstOk addr count = true →
    s.dev.damagedWindows = [] →
    (16 ≤ s.dev.readList.length →
      exec (.upstreamRead id addr count) s =
        .next { s with dev := Device.settle { s.dev with ports := [.notAccepted id] } }) ∧
    (s.dev.readList.length < 16 → ∃ found,
      exec (.upstreamRead id addr count) s = .next { s with dev := Device.settle (
        { s.dev with
          ports := []
          nextArrival := s.dev.nextArrival + 1
          readList := s.dev.readList ++ [⟨id, addr, count, found, s.dev.nextArrival⟩] }) } ∧
      ∀ m, found = some m ↔ s.dev.lookup addr = some m ∧
        (m.window.kind = .index ∧ s.dev.engine.mode = .normal ∧
            (∃ n, addr.toNat - m.window.base.toNat ≤ 1024 * n + 1016 ∧
              1024 * n + 1016 < addr.toNat - m.window.base.toNat + 8 * count) ∨
          m.window.kind = .report ∧
            ∃ n, addr.toNat - m.window.base.toNat ≤ 64 * n + 56 ∧
              64 * n + 56 < addr.toNat - m.window.base.toNat + 8 * count))) ∧
  ∀ (d : Device) (before : Nat) (addr : Addr) (count : Nat), 0 < count → (∀ w ∈ d.writeQueue, w.beats ≠ []) →
    (d.readClear before addr count = true ↔
      ∀ w ∈ d.writeQueue, w.arrival < before →
        ∀ a, w.addr.toNat ≤ a → a < w.addr.toNat + 8 * w.beats.length →
          ¬(addr.toNat ≤ a ∧ a < addr.toNat + 8 * count))

/-- R14: at the end of an event a presented burst stays presented; where there is none, of the eligible reads and the ready head
write the one that arrived first is presented, a read before a write that arrived with it. -/
def Obligations.OldestWaitingBurstIsPresented : Prop :=
  ∀ d : Device, d.readList.Pairwise (fun a b => a.arrival < b.arrival) →
    (∀ p, d.presented = some p → d.settle.presented = some p) ∧
    (d.presented = none →
      (∀ a, d.settle.presented = some (.read a) →
        ∃ r ∈ d.readList, r.arrival = a ∧ d.readClear r.arrival r.addr r.count = true ∧
          (∀ q ∈ d.readList, d.readClear q.arrival q.addr q.count = true → r.arrival ≤ q.arrival) ∧
          ∀ w ∈ d.writeQueue.head?, w.status = .ready → r.arrival ≤ w.arrival) ∧
      (d.settle.presented = some .write →
        ∃ w, d.writeQueue.head? = some w ∧ w.status = .ready ∧
          ∀ q ∈ d.readList, d.readClear q.arrival q.addr q.count = true → w.arrival < q.arrival) ∧
      (d.settle.presented = none →
        (∀ q ∈ d.readList, d.readClear q.arrival q.addr q.count = false) ∧
          ∀ w ∈ d.writeQueue.head?, w.status ≠ .ready))

/-! ## The arbiter -/

/-- No grant is made while 32 bursts are outstanding; otherwise, unless the anti-starvation rule applies, the highest-ranked
requester that waits wins (R15). -/
def Obligations.GrantsGoByRank : Prop :=
  (∀ s : State, s.dev.resetN = true → 32 ≤ s.dev.outstanding.length →
    exec .memoryGrant s = .next { s with dev := Device.settle { s.dev with ports := [] } }) ∧
  ∀ d : Device, d.arbiter.grantCount < 8 ∨ d.ownWaiting = false →
    (∀ r, d.winner = some r ↔ d.waits r = true ∧ ∃ before after,
      [Requester.urgentPrefetch, .throughPath, .recordWriter, .descriptorReads, .ordinaryPrefetch, .reportWriter] =
        before ++ r :: after ∧ ∀ q ∈ before, d.waits q = false) ∧
    (d.winner = none ↔ ∀ r, d.waits r = false)

/-- R16: the grant count after a grant, and the grant that follows a count of 8 while own traffic waits; it is 0 after reset. -/
def Obligations.GrantCountBoundsTheThroughPath : Prop :=
  (∀ (s : State) (r : Requester), s.dev.resetN = true → s.dev.outstanding.length < 32 → s.dev.winner = some r →
    ∃ e, exec .memoryGrant s = .next { s with dev := e } ∧
      e.arbiter.grantCount =
        if r = .throughPath ∧ s.dev.ownWaiting = true then min 8 (s.dev.arbiter.grantCount + 1) else 0) ∧
  (∀ d : Device, d.arbiter.grantCount = 8 → d.ownWaiting = true →
    ∃ r, d.winner = some r ∧ r ≠ .throughPath ∧ d.waits r = true ∧ ∃ before after,
      [Requester.urgentPrefetch, .recordWriter, .descriptorReads, .ordinaryPrefetch, .reportWriter] =
        before ++ r :: after ∧ ∀ q ∈ before, d.waits q = false) ∧
  (∀ d : Device, d.ownWaiting = true ↔ ∃ r, r ≠ .throughPath ∧ d.waits r = true) ∧
  State.reset.dev.arbiter.grantCount = 0

/-- A grant to the through-path issues the presented burst under the part's next identifier: the head write leaves the queue and
the entry behind it becomes the head, or the read leaves the read list. A grant to the record writer or to descriptor reads goes
to the first slot from the turn on that presents a burst, issues it, and passes the turn to the slot after it; one to the report
writer issues the report's burst. A grant to ordinary prefetch goes to the first lane from the turn on that presents a read and
holds no burst, and passes the turn to the lane after it; one to urgent prefetch goes to the lane that holds a burst. Either issues
the lane's sample read, which then waits for its answer, and the lane makes its next request (R1, R10, R12, R15, R16, R37, R103,
R150, R164). That an urgent grant leaves the turn of ordinary prefetch where it is, is the model's reading of R15 (log entry 17),
and that a lane makes no second request beside one that waits is its choice (log entry 33). -/
def Obligations.GrantIssuesItsBurst : Prop :=
  (∀ d : Device,
    (∀ t, d.recordSlot = some t → ∃ n : Slot, t = d.arbiter.recordTurn + n ∧ (d.recordBurstOf t).isSome = true ∧
      ∀ k < n, d.recordBurstOf (d.arbiter.recordTurn + k) = none) ∧
    (∀ t, d.descriptorSlot = some t → ∃ n : Slot, t = d.arbiter.descriptorTurn + n ∧ (d.descriptorRead t).isSome = true ∧
      ∀ k < n, d.descriptorRead (d.arbiter.descriptorTurn + k) = none) ∧
    (∀ l, d.ordinaryLane = some l → ∃ (n : LaneNo) (t : Slot) (x : ClipTrack) (q : SampleRequest),
      l = d.arbiter.laneTurn + n ∧ d.laneRequest l = some (t, x, q) ∧ x.held = none ∧
        ∀ k < n, ∀ u y r, d.laneRequest (d.arbiter.laneTurn + k) = some (u, y, r) → y.held ≠ none) ∧
    (∀ l, d.urgentLane = some l → ∃ (t : Slot) (x : ClipTrack) (q : SampleRequest),
      d.laneRequest l = some (t, x, q) ∧ x.held ≠ none) ∧
    ∀ l t x q, d.laneRequest l = some (t, x, q) ↔
      d.laneHolder l = some (t, x) ∧ x.request = some q ∧ d.readClear q.stamp q.addr q.beats = true) ∧
  ∀ s : State, s.dev.resetN = true → s.dev.outstanding.length < 32 →
    (∀ w rest, s.dev.winner = some .throughPath → s.dev.presented = some .write → s.dev.writeQueue = w :: rest →
      w.status = .ready →
      exec .memoryGrant s = .next { s with dev := Device.settle (Device.offerHead
        { s.dev with
          writeQueue := rest
          presented := none
          outstanding := s.dev.outstanding ++ [⟨s.dev.nextTag, .throughWrite w.id, w.addr, w.beats.length⟩]
          nextTag := s.dev.nextTag + 1
          ports := [.issueWrite s.dev.nextTag .throughPath w.addr w.beats]
          arbiter := { s.dev.arbiter with
            grantCount := if s.dev.ownWaiting then min 8 (s.dev.arbiter.grantCount + 1) else 0 } }) }) ∧
    (∀ r, s.dev.winner = some .throughPath → s.dev.presented = some (.read r.arrival) →
      s.dev.readList.find? (fun q => q.arrival == r.arrival) = some r →
      exec .memoryGrant s = .next { s with dev := Device.settle (
        { s.dev with
          readList := s.dev.readList.filter fun q => q.arrival != r.arrival
          presented := none
          outstanding := s.dev.outstanding ++ [⟨s.dev.nextTag, .throughRead r.id r.found, r.addr, r.count⟩]
          nextTag := s.dev.nextTag + 1
          ports := [.issueRead s.dev.nextTag .throughPath r.addr r.count]
          arbiter := { s.dev.arbiter with
            grantCount := if s.dev.ownWaiting then min 8 (s.dev.arbiter.grantCount + 1) else 0 } }) }) ∧
    (∀ t x f i r, s.dev.winner = some .recordWriter → s.dev.recordSlot = some t → (s.dev.track t).body = .text x →
      x.flight = some f → x.recordBurst = some (i, r) →
      exec .memoryGrant s = .next { s with dev := Device.settle (Device.setText
        { s.dev with
          outstanding := s.dev.outstanding ++ [⟨s.dev.nextTag, .record t, x.burstAddr r i, (r.burst i).length⟩]
          nextTag := s.dev.nextTag + 1
          ports := [.issueWrite s.dev.nextTag .recordWriter (x.burstAddr r i) (r.burst i)]
          arbiter := { s.dev.arbiter with grantCount := 0, recordTurn := t + 1 } } t
        { x with flight := some { f with granted := f.granted + 1, tags := f.tags ++ [s.dev.nextTag] } }) }) ∧
    (∀ t x a, s.dev.winner = some .descriptorReads → s.dev.descriptorSlot = some t →
      s.dev.descriptorRead t = some (x, a) →
      exec .memoryGrant s = .next { s with dev := Device.settle (Device.setTrack
        { s.dev with
          outstanding := s.dev.outstanding ++ [⟨s.dev.nextTag, .descriptor t x.capture, a, 16⟩]
          nextTag := s.dev.nextTag + 1
          ports := [.issueRead s.dev.nextTag .descriptorReads a 16]
          arbiter := { s.dev.arbiter with grantCount := 0, descriptorTurn := t + 1 } } t
        { s.dev.track t with fetch := none }) }) ∧
    (∀ a beats, s.dev.winner = some .reportWriter → s.dev.reports.burst = some (a, beats) →
      exec .memoryGrant s = .next { s with dev := Device.settle (
        { s.dev with
          outstanding := s.dev.outstanding ++ [⟨s.dev.nextTag, .report, a, beats.length⟩]
          nextTag := s.dev.nextTag + 1
          ports := [.issueWrite s.dev.nextTag .reportWriter a beats]
          arbiter := { s.dev.arbiter with grantCount := 0 }
          reports := s.dev.reports.burstGranted s.dev.nextTag }) }) ∧
    (∀ l t x q, s.dev.winner = some .urgentPrefetch → s.dev.urgentLane = some l → s.dev.laneRequest l = some (t, x, q) →
      (∀ c ∈ s.dev.trackClips t, c.2.parityOk = true) →
      exec .memoryGrant s = .next { s with dev := Device.settle (Device.laneRefresh (Device.setTrack
        { s.dev with
          outstanding := s.dev.outstanding ++ [⟨s.dev.nextTag, .samples l, q.addr, q.beats⟩]
          nextTag := s.dev.nextTag + 1
          ports := [.issueRead s.dev.nextTag .urgentPrefetch q.addr q.beats]
          arbiter := { s.dev.arbiter with grantCount := 0 } } t
        { s.dev.track t with
          body := .description { x with
            request := none
            reads := x.reads ++ [⟨s.dev.nextTag, q.clip, q.first, q.count, false⟩] } }) t) }) ∧
    ∀ l t x q, s.dev.winner = some .ordinaryPrefetch → s.dev.ordinaryLane = some l → s.dev.laneRequest l = some (t, x, q) →
      (∀ c ∈ s.dev.trackClips t, c.2.parityOk = true) →
      exec .memoryGrant s = .next { s with dev := Device.settle (Device.laneRefresh (Device.setTrack
        { s.dev with
          outstanding := s.dev.outstanding ++ [⟨s.dev.nextTag, .samples l, q.addr, q.beats⟩]
          nextTag := s.dev.nextTag + 1
          ports := [.issueRead s.dev.nextTag .ordinaryPrefetch q.addr q.beats]
          arbiter := { s.dev.arbiter with grantCount := 0, laneTurn := l + 1 } } t
        { s.dev.track t with
          body := .description { x with
            request := none
            reads := x.reads ++ [⟨s.dev.nextTag, q.clip, q.first, q.count, false⟩] } }) t) }

/-! ## The directive engine -/

/-- The checks of R27 come in order: a kind field that names no directive, a track directive in BYPASS, a track slot field above
15. The refusal is posted with the partial-write count, and nothing else changes. CLEAR BYPASS returns the mode to NORMAL and the
fault cause to none, and keeps everything else; in NORMAL mode it is refused (R27, R28, R33, R177). -/
def Obligations.EngineChecksAndClearsBypass : Prop :=
  (∀ (s : State) (x : Directive) (rest : List QueuedDirective), Taking s.dev .unknown x rest →
    exec .unknownDirective s = .next { s with dev := Device.settle ((Taken s.dev rest).refuse x .unknown) }) ∧
  (∀ (s : State) (x : Directive) (rest : List QueuedDirective) (k : DirectiveKind) (c : Instr), Taking s.dev k x rest →
    (k, c) ∈ trackCommands →
    (s.dev.engine.mode = .bypass →
      exec c s = .next { s with dev := Device.settle ((Taken s.dev rest).refuse x .bypass) }) ∧
    (s.dev.engine.mode = .normal → 15 < x.slotField.toNat →
      exec c s = .next { s with dev := Device.settle ((Taken s.dev rest).refuse x .badSlot) })) ∧
  ∀ (s : State) (x : Directive) (rest : List QueuedDirective), Taking s.dev .clearBypass x rest →
    (s.dev.engine.mode = .bypass →
      exec .clearBypass s = .next { s with dev := Device.settle (
        { s.dev with
          ports := []
          engine := { s.dev.engine with queue := rest, mode := .normal }
          monitor := ⟨none, 0⟩ }) } ∧
      ∀ e, exec .clearBypass s = .next { s with dev := e } →
        (e.attn = true ↔ ∃ r, s.dev.reports.ring = some r ∧ .written ∈ r.slots)) ∧
    (s.dev.engine.mode = .normal →
      exec .clearBypass s = .next { s with dev := Device.settle ((Taken s.dev rest).refuse x .notBypass) })

/-- A queue entry of bad parity is discarded without a refusal when it is taken, and the device enters BYPASS: the queue keeps
its SET REPORT RING and CLEAR BYPASS entries, every track is freed, queued mix and index writes revert, the tables are written
afresh, BYPASS ENTERED is posted and ATTN is high (R25, R174, R175). That the event is the command of the entry's stored kind is
the model's choice (log entry 2). -/
def Obligations.DamagedDirectiveEntersBypass : Prop :=
  ∀ (s : State) (x : Directive) (rest : List QueuedDirective) (k : DirectiveKind) (c : Instr),
    s.dev.resetN = true → s.dev.engine.current = none → s.dev.engine.queue = ⟨x, false⟩ :: rest →
    directiveKind x.kind = k → (k, c) ∈ directiveCommands → s.dev.engine.mode = .normal →
    ∃ e, exec c s = .next { s with dev := e } ∧ EnteredBypass (Taken s.dev rest) e .queue 0 ∧
      e.writeQueue = revertedQueue s.dev

/-- A parity error in NORMAL mode ends its reader's work without its changes, and the device enters BYPASS: in a live window entry,
whose burst is unmatched (R3); in the track context of a directive, which is not carried out; in an ACTIVE cue that CLOSE TRACK or
the waiting close of RESUME TRACK reads, where the track is left as it was (R112); in a clip that the lane reads for a burst, which
goes on with its original data (R157). A staged sample of bad parity is silence, sets the PARITY flag and does not enter BYPASS
(R157, R178). In BYPASS a damaged window entry is written again from its source, a damaged queue entry is discarded, and either is
reported as a repeat (R172, R173, R176). That any burst finds a damaged live entry, wherever its address lies, which number is told
of several damaged pool entries, and which command finds a damaged queue entry, are the model's choices (log entries 10, 12 and
2). That RESUME TRACK then leaves the track STALLED, with no TRACK RESUMED, is its reading of R112 (log entry 13). -/
def Obligations.ParityErrorsAreTold : Prop :=
  (∀ (s : State) (id : Nat) (addr : Addr) (i : EntryNo), Awake s.dev → s.dev.damagedWindows = [i] →
    (∀ beats, burstOk addr beats.length = true → s.dev.writeQueue.length < 16 →
      ∃ e, exec (.upstreamWrite id addr beats) s = .next { s with dev := e } ∧ e.ports = [] ∧
        (s.dev.engine.mode = .normal →
          EnteredBypass s.dev e .window i.val ∧
            e.writeQueue = revertedQueue s.dev ++ [⟨id, addr, beats, beats, none, s.dev.nextArrival,
              if s.dev.writeQueue.isEmpty then .ready else .waiting⟩]) ∧
        (s.dev.engine.mode = .bypass → i = 0 ∨ i = 1 →
          e.engine = s.dev.engine ∧ e.monitor = ⟨s.dev.monitor.faultCause, min 255 (s.dev.monitor.repeatCount + 1)⟩ ∧
            e.reports = s.dev.reports.posted (repeatReport s.dev .window i.val) ∧
            (∀ j : EntryNo, e.windows[j.val] =
              if j ≠ i then s.dev.windows[j.val]
              else if i = 0 then some ⟨controlWindow s.dev.strapLatch, true⟩
              else s.dev.reports.ring.map fun r => ⟨⟨r.base, r.size, .report, none⟩, true⟩) ∧
            e.tracks = s.dev.tracks ∧ e.cuePool = s.dev.cuePool ∧ e.clipPool = s.dev.clipPool ∧
            e.readList = s.dev.readList ∧ e.outstanding = s.dev.outstanding ∧
            e.writeQueue = s.dev.writeQueue ++ [⟨id, addr, beats, beats, none, s.dev.nextArrival,
              if s.dev.writeQueue.isEmpty then .ready else .waiting⟩])) ∧
    ∀ count, burstOk addr count = true → s.dev.readList.length < 16 → s.dev.engine.mode = .normal →
      ∃ e, exec (.upstreamRead id addr count) s = .next { s with dev := e } ∧ EnteredBypass s.dev e .window i.val ∧
        e.writeQueue = revertedQueue s.dev ∧ e.readList.getLast? = some ⟨id, addr, count, none, s.dev.nextArrival⟩) ∧
  (∀ (s : State) (x : Directive) (rest : List QueuedDirective) (k : DirectiveKind) (c : Instr) (t : Slot),
    Taking s.dev k x rest → (k, c) ∈ trackCommands → s.dev.engine.mode = .normal → slotOfField x.slotField = some t →
    (s.dev.track t).parityOk = false →
    ∃ e, exec c s = .next { s with dev := e } ∧ EnteredBypass (Taken s.dev rest) e .track t.val ∧
      e.writeQueue = revertedQueue s.dev) ∧
  (∀ (s : State) (x : Directive) (rest : List QueuedDirective) (k : DirectiveKind) (c : Instr) (t : Slot) (y : TextTrack)
    (i : Nat) (q : CueEntry), TakingFor s.dev k x rest t → (s.dev.track t).body = .text y →
    s.dev.cue i = some q → q.track = t → q.status = .active → q.parityOk = false →
    (∀ j p, j < i → s.dev.cue j = some p → p.track = t → p.status = .active → p.parityOk = true) →
    (k = .closeTrack ∧ c = .closeTrack ∧ ((s.dev.track t).state = .running ∨ (s.dev.track t).state = .stalled) ∨
      k = .resumeTrack ∧ c = .resumeTrack ∧ (s.dev.track t).state = .stalled ∧ y.slotOf y.next = some .empty ∧
        y.due .running = true) →
    ∃ e, exec c s = .next { s with dev := e } ∧ EnteredBypass (Taken s.dev rest) e .cue i ∧
      e.writeQueue = revertedQueue s.dev) ∧
  (∀ (s : State) (id : Nat) (addr : Addr) (beats : List Beat) (m : WindowMatch) (t : Slot) (x : ClipTrack) (i : Nat)
    (q : ClipEntry), s.dev.resetN = true → s.dev.writeQueue = [] → Writing s.dev addr beats m →
    2 ≤ m.entry.val → m.window.kind = .mix → m.window.slot = some t → (s.dev.track t).parityOk = true →
    (s.dev.track t).body = .description x →
    ((s.dev.track t).state = .running ∨ (s.dev.track t).state = .degraded ∨ (s.dev.track t).state = .draining) →
    isRevisit x.cursor (2 * beats.length)
      (mapFirst x.settings.ringFrames x.cursor (x.settings.firstFrame addr)) = false →
    s.dev.clip i = some q → q.track = t → q.parityOk = false →
    (∀ j p, j < i → s.dev.clip j = some p → p.track = t → p.parityOk = true) →
    ∃ e, exec (.upstreamWrite id addr beats) s = .next { s with dev := e } ∧ EnteredBypass s.dev e .clip i ∧
      e.writeQueue = [⟨id, addr, beats, beats, none, s.dev.nextArrival, .ready⟩]) ∧
  (∀ (x : ClipTrack) (i : Nat) (c : ClipEntry) (p : Nat) (u : StagedSample),
    x.staged.find? (fun v => v.clip == i && v.index == p - c.start) = some u → u.parityOk = false →
    x.takeSample (some (i, c)) p = (0, c.level,
      { x with
        staged := x.staged.filter fun v => !(v.clip == i && v.index == p - c.start)
        counters := { x.counters with parityFlag := true } })) ∧
  ∀ (s : State) (x : Directive) (rest : List QueuedDirective) (k : DirectiveKind) (c : Instr),
    s.dev.resetN = true → s.dev.engine.current = none → s.dev.engine.queue = ⟨x, false⟩ :: rest →
    directiveKind x.kind = k → (k, c) ∈ directiveCommands → s.dev.engine.mode = .bypass →
    exec c s = .next { s with dev := Device.settle (
      { Taken s.dev rest with
        monitor := ⟨s.dev.monitor.faultCause, min 255 (s.dev.monitor.repeatCount + 1)⟩
        reports := s.dev.reports.posted (repeatReport s.dev .queue 0) }) }

/-- SET REPORT RING in both device modes: operands that fail a check are refused with RING; while a report is in writing the
directive waits; otherwise the ring is switched at once, or refused with OVERLAP (R30, R31, R32). -/
def Obligations.SetReportRingChecksThenSwitches : Prop :=
  ∀ (s : State) (x : Directive) (rest : List QueuedDirective) (base : Addr) (kib : Nat),
    Taking s.dev .setReportRing x rest → base = x.operand1.truncate 40 → kib = (x.operand2.extractLsb' 0 16).toNat →
    (base.toNat % 4096 ≠ 0 ∨ (kib ≠ 4 ∧ kib ≠ 8 ∧ kib ≠ 12 ∧ kib ≠ 16) ∨ 2 ^ 40 < base.toNat + 1024 * kib →
      exec .setReportRing s = .next { s with dev := Device.settle ((Taken s.dev rest).refuse x .ring) }) ∧
    (base.toNat % 4096 = 0 → (kib = 4 ∨ kib = 8 ∨ kib = 12 ∨ kib = 16) → base.toNat + 1024 * kib ≤ 2 ^ 40 →
      (s.dev.reports.writing.isSome = true →
        exec .setReportRing s = .next { s with dev := Device.settle (
          { s.dev with ports := [], engine := { s.dev.engine with queue := rest, current := some x } }) }) ∧
      (s.dev.reports.writing = none →
        ((∃ i : EntryNo, ∃ w, i ≠ 1 ∧ liveWindow s.dev i = some w ∧
            rangesOverlap base.toNat (1024 * kib) w.base.toNat w.size = true) →
          exec .setReportRing s = .next { s with dev := Device.settle ((Taken s.dev rest).refuse x .overlap) }) ∧
        ((∀ i : EntryNo, ∀ w, i ≠ 1 → liveWindow s.dev i = some w →
            rangesOverlap base.toNat (1024 * kib) w.base.toNat w.size = false) →
          ∃ e, exec .setReportRing s = .next { s with dev := e } ∧
            e.reports = { s.dev.reports with
              ring := some ⟨base, 1024 * kib, 0, 0, List.replicate (1024 * kib / 64) .empty⟩ } ∧
            (∀ i : EntryNo, e.windows[i.val] =
              if i = 1 then some ⟨⟨base, 1024 * kib, .report, none⟩, true⟩ else s.dev.windows[i.val]) ∧
            (e.attn = true ↔ s.dev.engine.mode = .bypass) ∧
            e.engine = { s.dev.engine with queue := rest } ∧
            e.readList = s.dev.readList.map (fun r =>
              if ∃ m, r.found = some m ∧ m.entry = 1 then { r with found := none } else r) ∧
            e.tracks = s.dev.tracks ∧ e.cuePool = s.dev.cuePool ∧ e.clipPool = s.dev.clipPool ∧
            e.monitor = s.dev.monitor ∧ e.arbiter = s.dev.arbiter)))

/-! ## Track directives -/

/-- R37: OPEN TRACK is refused with BUSY or ADDRESS, or the slot enters LOADING with the opening record and the descriptor
address stored, and a descriptor read of 16 beats is requested, which waits for the queued writes that overlap it. -/
def Obligations.OpenTrackRequestsTheDescriptor : Prop :=
  ∀ (s : State) (x : Directive) (rest : List QueuedDirective) (t : Slot), TakingFor s.dev .openTrack x rest t →
    ((s.dev.track t).state ≠ .free →
      exec .openTrack s = .next { s with dev := Device.settle ((Taken s.dev rest).refuse x .busy) }) ∧
    ((s.dev.track t).state = .free → (x.operand1.truncate 40 : Addr).toNat % 128 ≠ 0 →
      exec .openTrack s = .next { s with dev := Device.settle ((Taken s.dev rest).refuse x .address) }) ∧
    ((s.dev.track t).state = .free → (x.operand1.truncate 40 : Addr).toNat % 128 = 0 →
      ∃ e, exec .openTrack s = .next { s with dev := e } ∧
        e = Device.settle (Device.setTrack (Taken s.dev rest) t
          { state := .loading
            opening := some x
            descriptorAddr := some (x.operand1.truncate 40)
            fetch := some s.dev.nextArrival
            faultCause := none
            body := .absent
            parityOk := true }) ∧
        e.descriptorRead t =
          if s.dev.readClear s.dev.nextArrival (x.operand1.truncate 40) 16 then some (x, x.operand1.truncate 40)
          else none)

/-- CLOSE TRACK is refused in FREE, LOADING, DRAINING and FAULTED. A DESCRIPTION track enters DRAINING with its degraded mark,
or is summarised and freed at once when its schedule is empty (R44, R46). That the test for an empty schedule checks no clip pool
entry, damaged ones included, is the model's choice (log entry 36). -/
def Obligations.CloseTrackDrainsDescription : Prop :=
  ∀ (s : State) (x : Directive) (rest : List QueuedDirective) (t : Slot), TakingFor s.dev .closeTrack x rest t →
    (∀ r, ((s.dev.track t).state, r) ∈
        [(TrackState.free, RefusalReason.notOpen), (.loading, .busy), (.draining, .state), (.faulted, .state)] →
      exec .closeTrack s = .next { s with dev := Device.settle ((Taken s.dev rest).refuse x r) }) ∧
    ∀ y, (s.dev.track t).body = .description y →
      ((s.dev.track t).state = .running ∨ (s.dev.track t).state = .degraded) →
      (s.dev.trackClips t ≠ [] →
        exec .closeTrack s = .next { s with dev := Device.settle (Device.setTrack (Taken s.dev rest) t
          { s.dev.track t with
            state := .draining
            body := .description { y with degradedMark := some (decide ((s.dev.track t).state = .degraded)) } }) }) ∧
      (s.dev.trackClips t = [] →
        ∃ e, exec .closeTrack s = .next { s with dev := e } ∧ e.track t = TrackContext.freeContext ∧
          e.reports = s.dev.reports.posted
            (.trackSummary t .description y.counters.laneFlags y.counters.words) ∧
          (∀ u, u ≠ t → e.track u = s.dev.track u) ∧
          (∀ i : EntryNo, e.windows[i.val] =
            if i.val = 2 + 2 * t.val ∨ i.val = 3 + 2 * t.val then none else s.dev.windows[i.val]) ∧
          (∀ i c, e.cue i = some c ↔ s.dev.cue i = some c ∧ c.track ≠ t) ∧
          (∀ i c, e.clip i = some c ↔ s.dev.clip i = some c ∧ c.track ≠ t))

/-- CLOSE TRACK puts a TEXT track in DRAINING with its drain end, and closes every segment that starts before the drain end, as
far as there are EMPTY slots; the last of them is FINAL. The closes claim their slots, retire the cues that end by their boundaries
and take a pending retune (R44, R45, R50, R97, R98, R101, R110). -/
def Obligations.CloseTrackDrainsText : Prop :=
  ∀ (s : State) (x : Directive) (rest : List QueuedDirective) (t : Slot) (y : TextTrack),
    TakingFor s.dev .closeTrack x rest t → (s.dev.track t).body = .text y →
    ((s.dev.track t).state = .running ∨ (s.dev.track t).state = .stalled) →
    (∀ q ∈ s.dev.trackCues t, q.2.status = .active → q.2.parityOk = true) →
    ∃ e z stop n, exec .closeTrack s = .next { s with dev := e } ∧
      e.track t = { s.dev.track t with state := .draining, body := .text z } ∧
      ClosesMade t .draining (s.dev.activeCues t) { y with drainEnd := some stop } n z s.dev.cue e.cue ∧
      z.drainEnd = some stop ∧ y.openStart < stop ∧
      (∀ q ∈ s.dev.trackCues t, q.2.status = .active → q.2.stop ≤ stop) ∧
      (stop = y.openStart + 1 ∨ ∃ q ∈ s.dev.trackCues t, q.2.status = .active ∧ q.2.stop = stop) ∧
      (z.openStart < stop → z.waitingClose = true ∧ z.slotOf z.next ≠ some .empty) ∧
      (stop ≤ z.openStart → ∃ r, z.records.getLast? = some r ∧ r.final = true) ∧
      z.settings = y.settings ∧ z.consume = y.consume ∧ z.counters = y.counters ∧ z.flushFrame = y.flushFrame ∧
      (∀ u, u ≠ t → e.track u = s.dev.track u) ∧ e.clipPool = s.dev.clipPool ∧ e.windows = s.dev.windows ∧
      e.writeQueue = s.dev.writeQueue ∧ e.readList = s.dev.readList ∧ e.outstanding = s.dev.outstanding ∧
      e.reports = s.dev.reports ∧ e.engine = { s.dev.engine with queue := rest } ∧ e.monitor = s.dev.monitor

/-- FLUSH TRACK is refused by its checks in order; otherwise the flush frame is raised to F_T. A STALLED track stores it alone. A
RUNNING track closes every segment that ends at or before it, or stalls for want of an EMPTY slot (R48, R51). The closes claim
their slots, retire the cues that end by their boundaries and take a pending retune (R50, R98, R101). A timecode with a field out
of range or beyond the timeline limit is refused with TIMECODE (R57, R64). That a FAULTED DESCRIPTION track is refused
with WRONG KIND, by R48, and not with STATE, by R53, is the model's choice (log entry 32). -/
def Obligations.FlushTrackClosesSegments : Prop :=
  ∀ (s : State) (x : Directive) (rest : List QueuedDirective) (t : Slot), TakingFor s.dev .flushTrack x rest t →
    (∀ r, textRefusal (s.dev.track t) [.draining, .faulted] r →
      exec .flushTrack s = .next { s with dev := Device.settle ((Taken s.dev rest).refuse x r) }) ∧
    ∀ (y : TextTrack) (tc : Timecode) (f g : Nat), (s.dev.track t).body = .text y →
      ((s.dev.track t).state = .running ∨ (s.dev.track t).state = .stalled) →
      tc = ⟨(x.operand1.extractLsb' 24 8).toNat, (x.operand1.extractLsb' 16 8).toNat,
        (x.operand1.extractLsb' 8 8).toNat, (x.operand1.extractLsb' 0 8).toNat⟩ →
      f = tc.frames y.settings.rate.code y.settings.rate.dropFrame - y.settings.rate.origin →
      g = max f (y.flushFrame.getD 0) →
      (23 < tc.hh ∨ 59 < tc.mm ∨ 59 < tc.ss ∨ (rateOf y.settings.rate.code).nominal ≤ tc.ff ∨
          0 < f ∧ 4151263199 < ticks y.settings.rate.code f →
        exec .flushTrack s = .next { s with dev := Device.settle ((Taken s.dev rest).refuse x .timecode) }) ∧
      (tc.hh ≤ 23 → tc.mm ≤ 59 → tc.ss ≤ 59 → tc.ff < (rateOf y.settings.rate.code).nominal →
        (f = 0 ∨ ticks y.settings.rate.code f ≤ 4151263199) →
        ((s.dev.track t).state = .stalled →
          exec .flushTrack s = .next { s with dev := Device.settle (Device.setTrack (Taken s.dev rest) t
            { s.dev.track t with body := .text { y with flushFrame := some g } }) }) ∧
        ((s.dev.track t).state = .running →
          (∀ q ∈ s.dev.trackCues t, q.2.status = .active → q.2.parityOk = true) →
          ∃ e z n, exec .flushTrack s = .next { s with dev := e } ∧
            e.track t = { s.dev.track t with state := (e.track t).state, body := .text z } ∧
            ClosesMade t .running (s.dev.activeCues t) { y with flushFrame := some g } n z s.dev.cue e.cue ∧
            z.flushFrame = some g ∧ y.next ≤ z.next ∧ y.openStart ≤ z.openStart ∧
            ((e.track t).state = .running ∧ g < z.openStart + z.openLength ∧ e.reports = s.dev.reports ∨
              (e.track t).state = .stalled ∧ z.slotOf z.next ≠ some .empty ∧ z.waitingClose = true ∧
                e.reports = s.dev.reports.posted (.trackStalled t z.next z.tuning.stall z.writtenSlots)) ∧
            (∀ u, u ≠ t → e.track u = s.dev.track u) ∧ e.clipPool = s.dev.clipPool ∧ e.windows = s.dev.windows ∧
            e.writeQueue = s.dev.writeQueue ∧ e.readList = s.dev.readList ∧ e.outstanding = s.dev.outstanding ∧
            e.engine = { s.dev.engine with queue := rest } ∧ e.monitor = s.dev.monitor))

/-- ABORT TRACK of a FREE slot is refused with NOT OPEN. Any other slot becomes FREE in the event: its context and windows are
absent, its pool entries are freed, the bursts matched to its windows are unmatched and revert, and no report is posted (R47,
R4). That a pool entry of bad parity is freed with the others, without a report and without BYPASS, is the model's choice (log
entry 35). -/
def Obligations.AbortTrackFreesTheSlot : Prop :=
  ∀ (s : State) (x : Directive) (rest : List QueuedDirective) (t : Slot), TakingFor s.dev .abortTrack x rest t →
    ((s.dev.track t).state = .free →
      exec .abortTrack s = .next { s with dev := Device.settle ((Taken s.dev rest).refuse x .notOpen) }) ∧
    ((s.dev.track t).state ≠ .free →
      ∃ e, exec .abortTrack s = .next { s with dev := e } ∧ e.track t = TrackContext.freeContext ∧
        (∀ u, u ≠ t → e.track u = s.dev.track u) ∧
        (∀ i : EntryNo, e.windows[i.val] =
          if i.val = 2 + 2 * t.val ∨ i.val = 3 + 2 * t.val then none else s.dev.windows[i.val]) ∧
        (∀ i c, e.cue i = some c ↔ s.dev.cue i = some c ∧ c.track ≠ t) ∧
        (∀ i c, e.clip i = some c ↔ s.dev.clip i = some c ∧ c.track ≠ t) ∧
        e.writeQueue = s.dev.writeQueue.map (fun w =>
          if ∃ m, w.found = some m ∧ (m.entry.val = 2 + 2 * t.val ∨ m.entry.val = 3 + 2 * t.val) then
            { w with found := none, beats := w.original, status := if w.status = .held then .ready else w.status }
          else w) ∧
        e.readList = s.dev.readList.map (fun r =>
          if ∃ m, r.found = some m ∧ (m.entry.val = 2 + 2 * t.val ∨ m.entry.val = 3 + 2 * t.val) then
            { r with found := none }
          else r) ∧
        e.outstanding.map Outstanding.tag = s.dev.outstanding.map Outstanding.tag ∧
        (∀ o ∈ e.outstanding, ∀ id m, o.purpose = .throughRead id (some m) →
          m.entry.val ≠ 2 + 2 * t.val ∧ m.entry.val ≠ 3 + 2 * t.val) ∧
        e.reports = s.dev.reports ∧ e.engine = { s.dev.engine with queue := rest } ∧ e.monitor = s.dev.monitor ∧
        e.arbiter = s.dev.arbiter)

/-- RETUNE TRACK is refused by its checks in order; otherwise its four values, clamped, become the pending retune, replacing one
already present, and the current settings do not change (R49). That a FAULTED DESCRIPTION track is refused with WRONG KIND, by R49,
and not with STATE, by R53, is the model's choice (log entry 32). -/
def Obligations.RetuneTrackIsPending : Prop :=
  ∀ (s : State) (x : Directive) (rest : List QueuedDirective) (t : Slot), TakingFor s.dev .retuneTrack x rest t →
    (∀ r, textRefusal (s.dev.track t) [.draining, .faulted] r →
      exec .retuneTrack s = .next { s with dev := Device.settle ((Taken s.dev rest).refuse x r) }) ∧
    ∀ (y : TextTrack) (n : Nat), (s.dev.track t).body = .text y →
      ((s.dev.track t).state = .running ∨ (s.dev.track t).state = .stalled) →
      n = (x.operand1.extractLsb' 0 16).toNat →
      (n = 0 ∨ 600 < n →
        exec .retuneTrack s = .next { s with dev := Device.settle ((Taken s.dev rest).refuse x .segment) }) ∧
      (1 ≤ n → n ≤ 600 →
        exec .retuneTrack s = .next { s with dev := Device.settle (Device.setTrack (Taken s.dev rest) t
          { s.dev.track t with
            body := .text { y with
              pendingRetune := some
                { segmentLength := n
                  reorder := min 600 (x.operand2.extractLsb' 0 16).toNat
                  stall := if (x.operand3.extractLsb' 0 8).toNat = 1 then .lock else .auto
                  late := if (x.operand3.extractLsb' 8 8).toNat = 1 then .drop else .shift } } }) })

/-- RESUME TRACK is refused by its checks in order; otherwise the track leaves STALLED, TRACK RESUMED is posted, the waiting
close is made into its EMPTY slot, and the track runs on, or stalls again for want of an EMPTY slot (R52, R51). The closes claim
their slots, retire the cues that end by their boundaries and take a pending retune (R50, R98, R101). That a FAULTED DESCRIPTION
track is refused with WRONG KIND, by R52, and not with STATE, by R53, is the model's choice (log entry 32). -/
def Obligations.ResumeTrackMakesTheWaitingClose : Prop :=
  ∀ (s : State) (x : Directive) (rest : List QueuedDirective) (t : Slot), TakingFor s.dev .resumeTrack x rest t →
    (∀ r, textRefusal (s.dev.track t) [.running, .draining, .faulted] r →
      exec .resumeTrack s = .next { s with dev := Device.settle ((Taken s.dev rest).refuse x r) }) ∧
    ∀ y : TextTrack, (s.dev.track t).body = .text y → (s.dev.track t).state = .stalled →
      (.empty ∉ y.slots →
        exec .resumeTrack s = .next { s with dev := Device.settle ((Taken s.dev rest).refuse x .full) }) ∧
      (y.slotOf y.next = some .empty → y.due .running = true →
        (∀ q ∈ s.dev.trackCues t, q.2.status = .active → q.2.parityOk = true) →
        ∃ e z n r more, exec .resumeTrack s = .next { s with dev := e } ∧
          e.track t = { s.dev.track t with state := (e.track t).state, body := .text z } ∧
          ClosesMade t .running (s.dev.activeCues t) y n z s.dev.cue e.cue ∧
          z.records = y.records ++ r :: more ∧ r.segment = y.next ∧ y.next < z.next ∧
          ((e.track t).state = .running ∧ z.due .running = false ∧
              e.reports = s.dev.reports.posted (.trackResumed t .resume y.next) ∨
            (e.track t).state = .stalled ∧ z.slotOf z.next ≠ some .empty ∧ z.waitingClose = true ∧
              e.reports = (s.dev.reports.posted (.trackResumed t .resume y.next)).posted
                (.trackStalled t z.next z.tuning.stall z.writtenSlots)) ∧
          (∀ u, u ≠ t → e.track u = s.dev.track u) ∧ e.clipPool = s.dev.clipPool ∧ e.windows = s.dev.windows ∧
          e.writeQueue = s.dev.writeQueue ∧ e.readList = s.dev.readList ∧ e.outstanding = s.dev.outstanding ∧
          e.engine = { s.dev.engine with queue := rest } ∧ e.monitor = s.dev.monitor)

/-! ## The response to a descriptor read -/

/-- A descriptor answered ERROR, or one that fails a check of R39, refuses its OPEN TRACK with the first reason that applies, and
the slot becomes FREE. A response for a slot that is FREE, or LOADING for another OPEN, is discarded (R38, R39). -/
def Obligations.DescriptorRefusalsComeInOrder : Prop :=
  ∀ (s : State) (tag : Nat) (o : Outstanding) (t : Slot) (capture : BitVec 16) (data : List Word),
    Answering s.dev tag o (.descriptor t capture) → (s.dev.track t).parityOk = true → data.length = o.count →
    (∀ x, (s.dev.track t).state = .loading → (s.dev.track t).opening = some x → x.capture = capture →
      exec (.descriptorResponse tag .error data) s = .next { s with dev := Device.settle (
        (Device.setTrack (Answered s.dev tag) t TrackContext.freeContext).refuse x .memoryError) } ∧
      ∀ before reason fails after, descriptorChecks s.dev (dataBytes data) = before ++ (reason, fails) :: after →
        (∀ q ∈ before, ¬q.2) → fails →
        exec (.descriptorResponse tag .ok data) s = .next { s with dev := Device.settle (
          (Device.setTrack (Answered s.dev tag) t TrackContext.freeContext).refuse x reason) }) ∧
    ∀ resp, (s.dev.track t).state = .free ∨
        ((s.dev.track t).state = .loading ∧ ∃ x, (s.dev.track t).opening = some x ∧ x.capture ≠ capture) →
      exec (.descriptorResponse tag resp data) s = .next { s with dev := Device.settle (Answered s.dev tag) }

/-- A TEXT descriptor that passes every check is taken: the track runs with the clamped settings and empty blocks, its two
windows go live, and TRACK OPENED is posted with a flag for each field clamped and for an adjusted origin (R40, R43, R58, R179). -/
def Obligations.TextDescriptorIsTaken : Prop :=
  ∀ (s : State) (tag : Nat) (o : Outstanding) (t : Slot) (data : List Word) (x : Directive) (bs : List Byte),
    Answering s.dev tag o (.descriptor t x.capture) → (s.dev.track t).parityOk = true → data.length = o.count →
    bs = dataBytes data → (s.dev.track t).state = .loading → (s.dev.track t).opening = some x →
    field bs 0 1 = 1 → (∀ q ∈ descriptorChecks s.dev bs, ¬q.2) →
    ∃ e z clamps, exec (.descriptorResponse tag .ok data) s = .next { s with dev := e } ∧
      e.track t = { s.dev.track t with state := .running, fetch := none, body := .text z } ∧
      z.settings =
        { rate := ⟨field bs 1 1, decide (field bs 2 1 % 2 = 1),
            (timecodeField bs 4).frames (field bs 1 1) (decide (field bs 2 1 % 2 = 1))⟩
          intakeBase := addrField bs 8
          intakeSize := field bs 16 4
          indexBase := addrField bs 24
          indexSize := field bs 20 4
          reserve := field bs 32 2
          minGap := min 15 (field bs 52 1)
          minDuration := min 120 (field bs 53 1)
          cps := min 60 (field bs 54 1)
          columns := if field bs 55 1 = 0 then 42 else max 20 (min 48 (field bs 55 1)) } ∧
      z.tuning =
        { segmentLength := field bs 48 2
          reorder := min 600 (field bs 50 2)
          stall := if field bs 56 1 = 1 then .lock else .auto
          late := if field bs 57 1 = 1 then .drop else .shift } ∧
      z.openLength = field bs 48 2 ∧ z.openStart = 0 ∧ z.next = 0 ∧ z.consume = 0 ∧ z.horizon = none ∧
      z.pendingRetune = none ∧ z.flushFrame = none ∧ z.drainEnd = none ∧ z.records = [] ∧ z.flight = none ∧
      z.waitingClose = false ∧ z.slots = List.replicate (field bs 20 4 / 1024) .empty ∧
      (∀ n ∈ z.counters.words, n = 0) ∧
      (∀ i : EntryNo, e.windows[i.val] =
        if i.val = 2 + 2 * t.val then some ⟨⟨addrField bs 8, field bs 16 4, .textIntake, some t⟩, true⟩
        else if i.val = 3 + 2 * t.val then some ⟨⟨addrField bs 24, field bs 20 4, .index, some t⟩, true⟩
        else s.dev.windows[i.val]) ∧
      e.reports = s.dev.reports.posted (.trackOpened t x.capture x.place .text none clamps) ∧
      (∀ b, clamps.getLsbD b = true ↔
        (b = 0 ∧ 600 < field bs 50 2) ∨ (b = 1 ∧ 15 < field bs 52 1) ∨ (b = 2 ∧ 120 < field bs 53 1) ∨
        (b = 3 ∧ 60 < field bs 54 1) ∨ (b = 4 ∧ (field bs 55 1 < 20 ∨ 48 < field bs 55 1)) ∨
        (b = 5 ∧ field bs 56 1 ≠ 0 ∧ field bs 56 1 ≠ 1) ∨ (b = 6 ∧ field bs 57 1 ≠ 0 ∧ field bs 57 1 ≠ 1) ∨
        (b = 31 ∧ originIsDropped bs)) ∧
      (∀ u, u ≠ t → e.track u = s.dev.track u) ∧ e.cuePool = s.dev.cuePool ∧ e.clipPool = s.dev.clipPool ∧
      e.writeQueue = s.dev.writeQueue ∧ e.readList = s.dev.readList ∧ e.engine = s.dev.engine ∧
      e.monitor = s.dev.monitor ∧ e.outstanding = s.dev.outstanding.filter fun o => o.tag != tag

/-- A DESCRIPTION descriptor that passes every check is taken on the lowest-numbered free lane: the track runs with the clamped
settings, cursor 0 and an empty staging buffer, its two windows go live, and TRACK OPENED is posted with the lane, and with a flag
for each field clamped and for an adjusted origin (R40, R42, R43, R58, R179). -/
def Obligations.DescriptionDescriptorIsTaken : Prop :=
  ∀ (s : State) (tag : Nat) (o : Outstanding) (t : Slot) (data : List Word) (x : Directive) (bs : List Byte),
    Answering s.dev tag o (.descriptor t x.capture) → (s.dev.track t).parityOk = true → data.length = o.count →
    bs = dataBytes data → (s.dev.track t).state = .loading → (s.dev.track t).opening = some x →
    field bs 0 1 = 2 → (∀ q ∈ descriptorChecks s.dev bs, ¬q.2) →
    ∃ e z clamps, exec (.descriptorResponse tag .ok data) s = .next { s with dev := e } ∧
      e.track t = { s.dev.track t with state := .running, fetch := none, body := .description z } ∧
      (∀ u y, (s.dev.track u).clips = some y → y.lane ≠ z.lane) ∧
      (∀ l, l < z.lane → ∃ u y, (s.dev.track u).clips = some y ∧ y.lane = l) ∧
      z.settings =
        { rate := ⟨field bs 1 1, decide (field bs 2 1 % 2 = 1),
            (timecodeField bs 4).frames (field bs 1 1) (decide (field bs 2 1 % 2 = 1))⟩
          intakeBase := addrField bs 8
          intakeSize := field bs 16 4
          mixBase := addrField bs 24
          mixSize := field bs 20 4
          reserve := field bs 32 2
          lead := min 2000 (field bs 48 2)
          tail := min 4000 (field bs 50 2)
          defaultGain := min 32768 (field bs 52 2)
          defaultLevel := min 32768 (field bs 54 2)
          defaultMode := if field bs 56 1 = 2 then .autoFast else if field bs 56 1 = 3 then .autoFull else .fixed
          trim := ((field bs 57 1 + 8) % 16 : Nat) - (8 : Int)
          fastThreshold := min 32767 (field bs 58 2)
          fastBand := min 8191 (field bs 60 2)
          deepPreset := min 32768 (field bs 62 2)
          shallowPreset := min 32768 (field bs 64 2)
          fullTarget := max 1 (min 32767 (field bs 66 2))
          gainFloor := min 32768 (field bs 68 2)
          holdLimit := max 10 (min 1000 (field bs 70 2)) } ∧
      z.cursor = 0 ∧ z.stagingBase = 0 ∧ z.staged = [] ∧ z.reads = [] ∧ z.request = none ∧ z.held = none ∧
      z.timer = .idle ∧ z.underruns = 0 ∧ z.degradedMark = none ∧ z.meter.history = [] ∧ z.meter.block = 0 ∧
      z.meter.accumulator = 0 ∧ z.meter.decision = .shallow ∧ (∀ n ∈ z.counters.words, n = 0) ∧
      (∀ b ∈ z.counters.laneFlags, b = false) ∧
      (∀ i : EntryNo, e.windows[i.val] =
        if i.val = 2 + 2 * t.val then some ⟨⟨addrField bs 8, field bs 16 4, .clipIntake, some t⟩, true⟩
        else if i.val = 3 + 2 * t.val then some ⟨⟨addrField bs 24, field bs 20 4, .mix, some t⟩, true⟩
        else s.dev.windows[i.val]) ∧
      e.reports = s.dev.reports.posted (.trackOpened t x.capture x.place .description (some z.lane) clamps) ∧
      (∀ b, clamps.getLsbD b = true ↔
        (b = 8 ∧ 2000 < field bs 48 2) ∨ (b = 9 ∧ 4000 < field bs 50 2) ∨ (b = 10 ∧ 32768 < field bs 52 2) ∨
        (b = 11 ∧ 32768 < field bs 54 2) ∨ (b = 12 ∧ 32768 < field bs 62 2) ∨ (b = 13 ∧ 32768 < field bs 64 2) ∨
        (b = 14 ∧ 32768 < field bs 68 2) ∨ (b = 15 ∧ field bs 56 1 ∉ [0, 2, 3]) ∨ (b = 16 ∧ 32767 < field bs 58 2) ∨
        (b = 17 ∧ 8191 < field bs 60 2) ∨ (b = 18 ∧ (field bs 66 2 = 0 ∨ 32767 < field bs 66 2)) ∨
        (b = 19 ∧ (field bs 70 2 < 10 ∨ 1000 < field bs 70 2)) ∨ (b = 31 ∧ originIsDropped bs)) ∧
      (∀ u, u ≠ t → e.track u = s.dev.track u) ∧ e.cuePool = s.dev.cuePool ∧ e.clipPool = s.dev.clipPool ∧
      e.writeQueue = s.dev.writeQueue ∧ e.readList = s.dev.readList ∧ e.engine = s.dev.engine ∧
      e.monitor = s.dev.monitor ∧ e.outstanding = s.dev.outstanding.filter fun o => o.tag != tag

/-! ## Segment records -/

/-- The record assembled at a close: its numbers; a fragment for each cue that intersects the segment, in the order of the cues,
with the cue's fields and its offsets, the first 60 kept and the rest counted, each inside the segment; FINAL at the last close of
a drain alone; and its 1024 bytes, which end in the segment number and the completion mark (R99, R100, R102, R110, R181). The
cues are the track's ACTIVE ones in active-list order (R86). A close decision makes every close that is due, as far as there are
EMPTY slots, and a RUNNING track that finds none stalls (R50, R95, R96, R97, R98, R101). -/
def Obligations.SegmentRecordIsAssembled : Prop :=
  (∀ (t : Slot) (st : TrackState) (x : TextTrack) (cues : List CueEntry) (r : SegmentRecord) (code first last : Nat),
    code = x.settings.rate.code → code ≤ 7 → first = x.openStart → last = x.openStart + x.openLength →
    r = assemble t st x cues →
    r.slot = t ∧ r.segment = x.next ∧ r.startTick = ticks code first ∧ r.startTick + r.lengthTicks = ticks code last ∧
      r.fragments = (((cues.filter fun c => decide (max c.start first < min c.stop last)).map fun c =>
        { intakeSlot := c.intakeSlot
          hostId := c.hostId
          startOffset := ticks code (max c.start first) - ticks code first
          endOffset := ticks code (min c.stop last) - ticks code first
          row := c.row
          height := c.height
          style := c.style
          contIn := decide (c.start < first)
          contOut := decide (last < c.stop)
          flags := c.flags }).take 60) ∧
      r.fragments.length + r.omitted = cues.countP (fun c => decide (max c.start first < min c.stop last)) ∧
      (r.overflow = true ↔ 0 < r.omitted) ∧
      (r.final = true ↔ st = .draining ∧ ∃ stop, x.drainEnd = some stop ∧ stop ≤ last) ∧
      (∀ f ∈ r.fragments, f.startOffset < f.endOffset ∧ f.endOffset ≤ r.lengthTicks ∧
        (f.contIn = true → f.startOffset = 0) ∧ (f.contOut = true → f.endOffset = r.lengthTicks)) ∧
      r.bytes.length = 1024 ∧ field r.bytes 0 1 = t.val ∧
      field r.bytes 1 1 = (if r.overflow then 1 else 0) + (if r.final then 2 else 0) ∧
      field r.bytes 2 1 = r.fragments.length ∧ field r.bytes 4 2 = r.omitted % 2 ^ 16 ∧
      field r.bytes 8 4 = r.segment % 2 ^ 32 ∧ field r.bytes 12 4 = r.startTick % 2 ^ 32 ∧
      field r.bytes 16 4 = r.lengthTicks % 2 ^ 32 ∧
      (∀ i f, r.fragments[i]? = some f →
        field r.bytes (32 + 16 * i) 2 = f.intakeSlot % 2 ^ 16 ∧ field r.bytes (34 + 16 * i) 4 = f.hostId.toNat ∧
          field r.bytes (38 + 16 * i) 3 = f.startOffset % 2 ^ 24 ∧ field r.bytes (41 + 16 * i) 3 = f.endOffset % 2 ^ 24 ∧
          field r.bytes (44 + 16 * i) 1 = (f.row % 16 + 16 * f.height) % 2 ^ 8 ∧
          field r.bytes (45 + 16 * i) 1 = f.style.toNat ∧ field r.bytes (47 + 16 * i) 1 = 0 ∧
          ([f.contIn, f.contOut, f.flags.lateShifted, f.flags.moved, f.flags.gapClosed, f.flags.extended,
              f.flags.overrate, f.flags.overwidth] = (List.range 8).map fun k =>
            (field r.bytes (46 + 16 * i) 1).testBit k)) ∧
      (∀ i, i = 3 ∨ i = 6 ∨ i = 7 ∨ 20 ≤ i ∧ i < 32 ∨ 32 + 16 * r.fragments.length ≤ i ∧ i < 1016 →
        field r.bytes i 1 = 0) ∧
      field r.bytes 1016 4 = r.segment % 2 ^ 32 ∧ field r.bytes 1020 4 = 0x5A17C3E9) ∧
  (∀ (d : Device) (t : Slot), (d.activeCues t).Nodup ∧
    (d.activeCues t).Pairwise (fun a b => a.2.start < b.2.start ∨ a.2.start = b.2.start ∧ a.2.arrival ≤ b.2.arrival) ∧
    ∀ i c, (i, c) ∈ d.activeCues t ↔ d.cue i = some c ∧ c.track = t ∧ c.status = .active) ∧
  (∀ x : TextTrack,
    (x.due .running = true ↔ (∃ h, x.horizon = some h ∧ x.openStart + x.openLength + x.tuning.reorder ≤ h) ∨
      ∃ f, x.flushFrame = some f ∧ x.openStart + x.openLength ≤ f) ∧
    x.due .stalled = x.due .running ∧ (x.due .draining = true ↔ ∃ stop, x.drainEnd = some stop ∧ x.openStart < stop) ∧
    x.due .faulted = false) ∧
  ∀ (d before e : Device) (t : Slot) (st : TrackState) (x : TextTrack), (d.track t).body = .text x →
    st = (d.track t).state → (∀ q ∈ d.trackCues t, q.2.status = .active → q.2.parityOk = true) →
    e = d.decideClose t before →
    ∃ n z, ClosesMade t st (d.activeCues t) x n z d.cue e.cue ∧
      e = { d.setTrack t { d.track t with state := (e.track t).state, body := .text z } with
        cuePool := e.cuePool
        reports := e.reports } ∧
      (z.due st = true → st = .running → (e.track t).state = .stalled ∧
        e.reports = d.reports.posted (.trackStalled t z.next z.tuning.stall z.writtenSlots)) ∧
      (z.due st = false ∨ st ≠ .running → (e.track t).state = st ∧ e.reports = d.reports)

/-- A record burst answered OK counts towards its record. When the trailer's answer comes, the slot is WRITTEN, the record is
dropped and counted, and the next WRITING slot's record is in flight (R103, R104). A response to a burst of an abandoned record
is discarded (R105). A record burst answered ERROR posts MEMORY ERROR, abandons every WRITING record of the track and puts it in
FAULTED with TRACK FAULTED posted; the slot states stay (R105, R53). That the pending retune and the drain end are absent in
FAULTED is the model's reading of R35 (log entry 25). -/
def Obligations.RecordBurstAnswersAreTaken : Prop :=
  (∀ (s : State) (tag : Nat) (o : Outstanding) (t : Slot) (x : TextTrack), Answering s.dev tag o (.record t) →
    o.tag = tag → (s.dev.track t).parityOk = true → (s.dev.track t).body = .text x →
    (∀ f, x.flight = some f → tag ∈ f.tags → f.answered < 8 →
      exec (.recordWriteResponse tag .ok) s = .next { s with dev := Device.settle (
        Device.setTrack (Answered s.dev tag) t { s.dev.track t with
          body := .text { x with
            flight := some { f with answered := f.answered + 1, tags := f.tags.erase tag } } }) }) ∧
    (∀ f r rest, x.flight = some f → tag ∈ f.tags → f.answered = 8 → x.records = r :: rest →
      exec (.recordWriteResponse tag .ok) s = .next { s with dev := Device.settle (
        Device.setTrack (Answered s.dev tag) t { s.dev.track t with
          body := .text { x with
            slots := x.slots.set (r.segment % x.slots.length) .written
            records := rest
            flight := if rest = [] then none else some ⟨0, 0, []⟩
            counters := { x.counters with
              recordsWritten := min 65535 (x.counters.recordsWritten + 1)
              emptyRecords :=
                if r.fragments.isEmpty then min 65535 (x.counters.emptyRecords + 1) else x.counters.emptyRecords
              overflowRecords :=
                if r.overflow then min 65535 (x.counters.overflowRecords + 1) else x.counters.overflowRecords
              fragmentsOmitted := min 65535 (x.counters.fragmentsOmitted + r.omitted) } } }) }) ∧
    ∀ resp, (∀ f, x.flight = some f → tag ∉ f.tags) →
      exec (.recordWriteResponse tag resp) s = .next { s with dev := Device.settle (Answered s.dev tag) }) ∧
  ∀ (s : State) (tag : Nat) (o : Outstanding) (t : Slot) (x : TextTrack) (f : Flight),
    Answering s.dev tag o (.record t) → o.tag = tag → (s.dev.track t).parityOk = true →
    (s.dev.track t).body = .text x → x.flight = some f → tag ∈ f.tags →
    ∃ e z, exec (.recordWriteResponse tag .error) s = .next { s with dev := e } ∧
      e.track t = { s.dev.track t with state := .faulted, faultCause := some .recordError, body := .text z } ∧
      z = { x with pendingRetune := none, drainEnd := none, records := [], flight := none, waitingClose := false } ∧
      e.reports = (s.dev.reports.posted (.memoryError t none o.addr o.count)).posted
        (.trackFaulted t .recordError (s.dev.track t).state) ∧
      (∀ u, u ≠ t → e.track u = s.dev.track u) ∧ e.cuePool = s.dev.cuePool ∧ e.clipPool = s.dev.clipPool ∧
      e.windows = s.dev.windows ∧ e.writeQueue = s.dev.writeQueue ∧ e.readList = s.dev.readList ∧
      e.outstanding = (s.dev.outstanding.filter fun q => q.tag != tag) ∧ e.engine = s.dev.engine ∧
      e.monitor = s.dev.monitor

/-- A trailer read of an index slot; a burst covers one trailer beat of an index ring at most. In FAULTED it changes nothing. In
RUNNING, STALLED and DRAINING an early one is counted, and one of a WRITTEN slot consumes it. From the consume point's slot the
consume point passes the CONSUMED slots up to k, empties them, and releases and counts the RETIRED cues whose last record it has
passed; closes then retire what ends by their boundaries. What follows the advance: nothing in RUNNING, nor in STALLED under LOCK; a STALLED track under AUTO resumes and makes its
waiting close; a DRAINING track makes the close that waits, or, once the FINAL record is passed, posts TRACK SUMMARY and becomes
FREE, or goes on (R8, R50, R51, R53, R98, R101, R106, R108, R109, R110). -/
def Obligations.IndexTrailerReadConsumes : Prop :=
  (∀ (w : Window) (addr : Addr) (count : Nat), w.kind = .index → count ≤ 16 →
    (coveredTrailers w addr count).length ≤ 1) ∧
  ∀ (s : State) (tag id : Nat) (o : Outstanding) (m : WindowMatch) (t : Slot) (n : Nat) (x : TextTrack)
    (data : List Word), Answering s.dev tag o (.throughRead id (some m)) → data.length = o.count →
    m.window.kind = .index → m.window.slot = some t → coveredTrailers m.window o.addr o.count = [n] →
    (s.dev.track t).parityOk = true → (s.dev.track t).body = .text x →
    ((s.dev.track t).state = .faulted →
      exec (.throughReadResponse tag .ok data) s = .next { s with dev := Device.settle (
        { Answered s.dev tag with ports := [.answerRead id .ok data] }) }) ∧
    ((s.dev.track t).state = .running ∨ (s.dev.track t).state = .stalled ∨ (s.dev.track t).state = .draining →
      (∀ q ∈ s.dev.trackCues t, q.2.parityOk = true) → x.next - x.consume ≤ x.slots.length →
      ((x.slots[n]? = some .empty ∨ x.slots[n]? = some .consumed) →
        exec (.throughReadResponse tag .ok data) s = .next { s with dev := Device.settle (
          { Answered s.dev tag with ports := [.answerRead id .ok data] }) }) ∧
      (x.slots[n]? = some .writing →
        exec (.throughReadResponse tag .ok data) s = .next { s with dev := Device.settle (
          Device.setTrack { Answered s.dev tag with ports := [.answerRead id .ok data] } t
            { s.dev.track t with
              body := .text { x with
                counters := { x.counters with earlyReads := min 65535 (x.counters.earlyReads + 1) } } }) }) ∧
      (x.slots[n]? = some .written → n ≠ x.consume % x.slots.length →
        exec (.throughReadResponse tag .ok data) s = .next { s with dev := Device.settle (
          Device.setTrack { Answered s.dev tag with ports := [.answerRead id .ok data] } t
            { s.dev.track t with body := .text { x with slots := x.slots.set n .consumed } }) }) ∧
      (x.slots[n]? = some .written → n = x.consume % x.slots.length → x.consume < x.next →
        ∃ e a, exec (.throughReadResponse tag .ok data) s = .next { s with dev := e } ∧
          Advanced n x a (releasedCues s.dev t x.consume a.consume).length ∧ e.ports = [.answerRead id .ok data] ∧
          (∀ u, u ≠ t → e.track u = s.dev.track u) ∧ e.engine = s.dev.engine ∧ e.monitor = s.dev.monitor ∧
          (((s.dev.track t).state = .running ∨ (s.dev.track t).state = .stalled ∧ x.tuning.stall = .lock ∨
              (s.dev.track t).state = .draining ∧ x.waitingClose = false ∧
                (a.consume < x.next ∨ ∃ stop, x.drainEnd = some stop ∧ x.openStart < stop)) →
            e.track t = { s.dev.track t with body := .text a } ∧ Released s.dev t x.consume a.consume e.cue ∧
              e.clipPool = s.dev.clipPool ∧ e.windows = s.dev.windows ∧ e.writeQueue = s.dev.writeQueue ∧
              e.readList = s.dev.readList ∧ e.reports = s.dev.reports) ∧
          ((s.dev.track t).state = .stalled → x.tuning.stall = .auto → x.next = x.consume + x.slots.length →
            x.due .running = true →
            ∃ z r more n kept, e.track t = { s.dev.track t with state := (e.track t).state, body := .text z } ∧
              z.consume = a.consume ∧ z.records = x.records ++ r :: more ∧ r.segment = x.next ∧ x.next < z.next ∧
              Released s.dev t x.consume a.consume kept ∧
              ClosesMade t .running (s.dev.activeCues t) a n z kept e.cue ∧ e.clipPool = s.dev.clipPool ∧
              e.windows = s.dev.windows ∧ e.writeQueue = s.dev.writeQueue ∧ e.readList = s.dev.readList ∧
              ((e.track t).state = .running ∧ z.due .running = false ∧
                  e.reports = s.dev.reports.posted (.trackResumed t .auto x.next) ∨
                (e.track t).state = .stalled ∧ z.slotOf z.next ≠ some .empty ∧ z.waitingClose = true ∧
                  e.reports = (s.dev.reports.posted (.trackResumed t .auto x.next)).posted
                    (.trackStalled t z.next z.tuning.stall z.writtenSlots))) ∧
          (∀ stop, (s.dev.track t).state = .draining → x.waitingClose = true → x.drainEnd = some stop →
            x.openStart < stop → x.next = x.consume + x.slots.length →
            ∃ z r more n kept, e.track t = { s.dev.track t with body := .text z } ∧ z.consume = a.consume ∧
              z.drainEnd = some stop ∧ z.records = x.records ++ r :: more ∧ r.segment = x.next ∧ x.next < z.next ∧
              (z.openStart < stop → z.waitingClose = true ∧ z.slotOf z.next ≠ some .empty) ∧
              (stop ≤ z.openStart → ∃ f, z.records.getLast? = some f ∧ f.final = true) ∧
              Released s.dev t x.consume a.consume kept ∧
              ClosesMade t .draining (s.dev.activeCues t) a n z kept e.cue ∧ e.clipPool = s.dev.clipPool ∧
              e.windows = s.dev.windows ∧ e.writeQueue = s.dev.writeQueue ∧ e.readList = s.dev.readList ∧
              e.reports = s.dev.reports) ∧
          (∀ stop, (s.dev.track t).state = .draining → x.waitingClose = false → x.drainEnd = some stop →
            stop ≤ x.openStart → a.consume = x.next →
            e.track t = TrackContext.freeContext ∧
              e.reports = s.dev.reports.posted
                (.trackSummary t .text [false, false, false, false] a.counters.words) ∧
              (∀ i : EntryNo, e.windows[i.val] =
                if i.val = 2 + 2 * t.val ∨ i.val = 3 + 2 * t.val then none else s.dev.windows[i.val]) ∧
              (∀ i c, e.cue i = some c ↔ s.dev.cue i = some c ∧ c.track ≠ t) ∧
              ∀ i c, e.clip i = some c ↔ s.dev.clip i = some c ∧ c.track ≠ t)))

/-! ## Reports -/

/-- A posted report joins the tail of the post queue when a ring is set, the queue holds fewer than 16 and w − r with the report
in writing and the queued reports is below Cr; any other is discarded and counted (R163). A queued report is written in three
commands: it begins in slot w mod Cr with the lost-report count in its header and its body of 7 beats presented; the body's
answer OK presents the trailer with the mark of its pass; the trailer's answer OK makes the slot WRITTEN, raises w and sets ATTN
(R164, R167). While the engine is WAITING no report begins, and the trailer's answer OK ends the wait: the ring is switched, or
SET REPORT RING is refused with OVERLAP and the old ring keeps the report (R31, R32). -/
def Obligations.ReportIsQueuedThenWritten : Prop :=
  (∀ (w : ReportWriter) (x : Report),
    (∀ r, w.ring = some r → w.queue.length < 16 →
      r.written - r.read + (if w.writing = none then 0 else 1) + w.queue.length < r.size / 64 →
      w.posted x = { w with queue := w.queue ++ [x] }) ∧
    ((w.ring = none ∨ 16 ≤ w.queue.length ∨ ∃ r, w.ring = some r ∧
        r.size / 64 ≤ r.written - r.read + (if w.writing = none then 0 else 1) + w.queue.length) →
      w.posted x = { w with lost := min 65535 (w.lost + 1) })) ∧
  ∀ (s : State) (ring : ReportRing), s.dev.resetN = true → s.dev.reports.ring = some ring →
    (∀ y, s.dev.engine.current = some y →
      exec .reportBegin s = .next { s with dev := Device.settle { s.dev with ports := [] } }) ∧
    (∀ x rest, s.dev.engine.current = none → s.dev.reports.writing = none → s.dev.reports.queue = x :: rest →
      ∃ e, exec .reportBegin s = .next { s with dev := e } ∧ e = Device.settle (
          { s.dev with
            ports := []
            reports :=
              { ring := some { ring with slots := ring.slots.set (ring.written % (ring.size / 64)) .writing }
                queue := rest
                writing := some ⟨x, ring.written % (ring.size / 64), s.dev.reports.lost, .bodyPresented⟩
                lost := 0 } }) ∧
        e.reports.burst = some (ring.base + BitVec.ofNat 40 (64 * (ring.written % (ring.size / 64))),
          fullBeats 7 (x.body s.dev.reports.lost))) ∧
    (∀ tag o x, Answering s.dev tag o .report → s.dev.reports.writing = some x → x.stage = .bodyGranted tag →
      ∃ e, exec (.reportWriteResponse tag .ok) s = .next { s with dev := e } ∧ e = Device.settle (
          { Answered s.dev tag with
            reports := { s.dev.reports with writing := some { x with stage := .trailerPresented } } }) ∧
        e.reports.burst = some (ring.base + BitVec.ofNat 40 (64 * x.slot + 56),
          fullBeats 1 (leBytes 4 (if ring.written / (ring.size / 64) % 2 = 0 then 0x3C96E1A5 else 0xC3691E5A) ++
            zeros 4))) ∧
    ∀ tag o x, Answering s.dev tag o .report → s.dev.reports.writing = some x → x.stage = .trailerGranted tag →
      x.slot < ring.slots.length →
      (s.dev.engine.current = none →
        ∃ e, exec (.reportWriteResponse tag .ok) s = .next { s with dev := e } ∧ e = Device.settle (
            { Answered s.dev tag with
              reports := { s.dev.reports with
                ring := some { ring with slots := ring.slots.set x.slot .written, written := ring.written + 1 }
                writing := none } }) ∧
          e.attn = true) ∧
      ∀ y, s.dev.engine.current = some y →
        ∃ e, exec (.reportWriteResponse tag .ok) s = .next { s with dev := e } ∧ e.ports = [] ∧
          e.outstanding.map Outstanding.tag = (s.dev.outstanding.filter fun q => q.tag != tag).map Outstanding.tag ∧
          e.tracks = s.dev.tracks ∧ e.cuePool = s.dev.cuePool ∧ e.clipPool = s.dev.clipPool ∧
          e.monitor = s.dev.monitor ∧ e.arbiter = s.dev.arbiter ∧
          ((∀ i : EntryNo, ∀ w, i ≠ 1 → liveWindow s.dev i = some w →
              rangesOverlap y.address1.toNat (1024 * y.sizeKiB) w.base.toNat w.size = false) →
            e.reports =
              { ring := some ⟨y.address1, 1024 * y.sizeKiB, 0, 0, List.replicate (1024 * y.sizeKiB / 64) .empty⟩
                queue := s.dev.reports.queue
                writing := none
                lost := s.dev.reports.lost } ∧
            (∀ i : EntryNo, e.windows[i.val] =
              if i = 1 then some ⟨⟨y.address1, 1024 * y.sizeKiB, .report, none⟩, true⟩ else s.dev.windows[i.val]) ∧
            e.readList = s.dev.readList.map (fun r =>
              if ∃ m, r.found = some m ∧ m.entry = 1 then { r with found := none } else r) ∧
            e.engine = { s.dev.engine with current := none } ∧
            (e.attn = true ↔ s.dev.engine.mode = .bypass)) ∧
          ((∃ i : EntryNo, ∃ w, i ≠ 1 ∧ liveWindow s.dev i = some w ∧
              rangesOverlap y.address1.toNat (1024 * y.sizeKiB) w.base.toNat w.size = true) →
            e.windows = s.dev.windows ∧ e.readList = s.dev.readList ∧
            e.engine = { s.dev.engine with current := none, partialWrites := 0 } ∧ e.attn = true ∧
            e.reports = ReportWriter.posted
              { ring := some { ring with slots := ring.slots.set x.slot .written, written := ring.written + 1 }
                queue := s.dev.reports.queue
                writing := none
                lost := s.dev.reports.lost }
              (.directiveRefused y.headerSlot .overlap y s.dev.engine.partialWrites))

/-- R165: a report burst answered ERROR abandons its report: the slot returns to EMPTY with w unchanged, the lost-report count
takes up the report's carried count plus 1, and a waiting ring switch then takes place. -/
def Obligations.ReportErrorAbandonsTheReport : Prop :=
  ∀ (s : State) (tag : Nat) (o : Outstanding) (ring : ReportRing) (x : ReportInWriting),
    Answering s.dev tag o .report → s.dev.reports.ring = some ring → s.dev.reports.writing = some x →
    (x.stage = .bodyGranted tag ∨ x.stage = .trailerGranted tag) →
    (s.dev.engine.current = none →
      exec (.reportWriteResponse tag .error) s = .next { s with dev := Device.settle (
        { Answered s.dev tag with
          reports :=
            { ring := some { ring with slots := ring.slots.set x.slot .empty }
              queue := s.dev.reports.queue
              writing := none
              lost := min 65535 (s.dev.reports.lost + (x.carried + 1)) } }) }) ∧
    ∀ y, s.dev.engine.current = some y →
      ∃ e, exec (.reportWriteResponse tag .error) s = .next { s with dev := e } ∧ e.engine.current = none ∧
        e.engine.queue = s.dev.engine.queue ∧ e.reports.writing = none ∧
        ((∀ i : EntryNo, ∀ w, i ≠ 1 → liveWindow s.dev i = some w →
            rangesOverlap y.address1.toNat (1024 * y.sizeKiB) w.base.toNat w.size = false) →
          e.reports =
            { ring := some ⟨y.address1, 1024 * y.sizeKiB, 0, 0, List.replicate (1024 * y.sizeKiB / 64) .empty⟩
              queue := s.dev.reports.queue
              writing := none
              lost := min 65535 (s.dev.reports.lost + (x.carried + 1)) }) ∧
        ((∃ i : EntryNo, ∃ w, i ≠ 1 ∧ liveWindow s.dev i = some w ∧
            rangesOverlap y.address1.toNat (1024 * y.sizeKiB) w.base.toNat w.size = true) →
          e.windows = s.dev.windows ∧
          e.reports = ReportWriter.posted
            { ring := some { ring with slots := ring.slots.set x.slot .empty }
              queue := s.dev.reports.queue
              writing := none
              lost := min 65535 (s.dev.reports.lost + (x.carried + 1)) }
            (.directiveRefused y.headerSlot .overlap y s.dev.engine.partialWrites))

/-- The trailer reads of a watched read of the report ring, in both device modes: a burst covers at most two trailer beats, and the
events of two are taken in increasing address order, each on the ring as the one before it left it. One of a WRITTEN slot consumes
it, and from the read point's slot the read point passes the CONSUMED slots up to w and empties them; one of any other slot
changes nothing (R8, R166). -/
def Obligations.ReportTrailerReadConsumes : Prop :=
  (∀ (w : Window) (addr : Addr) (count : Nat), w.kind = .report → count ≤ 16 →
    (coveredTrailers w addr count).length ≤ 2 ∧ (coveredTrailers w addr count).Pairwise (· < ·)) ∧
  ∀ (s : State) (tag id : Nat) (o : Outstanding) (m : WindowMatch) (ring : ReportRing) (data : List Word),
    Answering s.dev tag o (.throughRead id (some m)) → data.length = o.count → RingFits s.dev →
    m.window.kind = .report → s.dev.reports.ring = some ring →
    (∀ n, coveredTrailers m.window o.addr o.count = [n] →
      ∃ q, ReportConsumed ring n q ∧
        exec (.throughReadResponse tag .ok data) s = .next { s with dev := Device.settle (
          { Answered s.dev tag with
            ports := [.answerRead id .ok data]
            reports := { s.dev.reports with ring := some q } }) }) ∧
    ∀ n k, coveredTrailers m.window o.addr o.count = [n, k] →
      ∃ p q, ReportConsumed ring n p ∧ ReportConsumed p k q ∧
        exec (.throughReadResponse tag .ok data) s = .next { s with dev := Device.settle (
          { Answered s.dev tag with
            ports := [.answerRead id .ok data]
            reports := { s.dev.reports with ring := some q } }) }

/-! ## The mixer's commands -/

/-- R145: a mix write that its lane maps to a revisit is answered forward at its offer with its original data; the revisit is
counted and flagged, and nothing else of the lane changes. -/
def Obligations.RevisitGoesForwardUnchanged : Prop :=
  ∀ (s : State) (id : Nat) (addr : Addr) (beats : List Beat) (m : WindowMatch) (t : Slot) (x : ClipTrack) (p : Int),
    s.dev.resetN = true → s.dev.writeQueue = [] → burstOk addr beats.length = true → s.dev.engine.mode = .normal →
    s.dev.damagedWindows = [] → s.dev.lookup addr = some m → m.window.kind = .mix → m.window.slot = some t →
    (s.dev.track t).parityOk = true → (s.dev.track t).body = .description x →
    ((s.dev.track t).state = .running ∨ (s.dev.track t).state = .degraded ∨ (s.dev.track t).state = .draining) →
    p = mapFirst x.settings.ringFrames x.cursor (x.settings.firstFrame addr) →
    (p < x.cursor ∨ 4294967295 < p + 2 * beats.length - 1) →
    exec (.upstreamWrite id addr beats) s = .next { s with dev := Device.settle (
      Device.setTrack
        { s.dev with
          ports := []
          nextArrival := s.dev.nextArrival + 1
          writeQueue := [⟨id, addr, beats, beats, some m, s.dev.nextArrival, .ready⟩] } t
        { s.dev.track t with
          body := .description { x with
            counters := { x.counters with
              revisits := min 65535 (x.counters.revisits + 1)
              revisitFlag := true } } }) }

/-- The new head of the write queue is dealt with, be it a mix write that arrives at an empty queue or the write behind one that is
granted. A write into no MIX window is ready. For a FAULTED track, and as a revisit, a mix write is ready with its original data.
One that needs no description, or has every needed sample staged, is processed and ready; one that needs none leaves the underrun
counter, the mark and the reports alone. Where it retires the last clip of a DRAINING track, TRACK SUMMARY is posted, the track
becomes FREE and the answered write reverts to its original data. One that lacks a sample is held under RUNNING handling, and goes
on under DEGRADED handling (R10, R11, R46, R53, R145, R146, R148, R153, R154, R158, R161). -/
def Obligations.HeadIsDealtWith : Prop :=
  ∀ (s : State) (c : Instr) (d : Device) (v : QueuedWrite) (more : List QueuedWrite), DealsWith s c d v more →
    ((∀ m, v.found = some m → m.window.kind ≠ .mix) →
      exec c s = .next { s with dev := Device.settle (
        { d with writeQueue := { v with status := .ready } :: more }) }) ∧
    ∀ (m : WindowMatch) (t : Slot) (x : ClipTrack) (st : TrackState), v.found = some m → m.window.kind = .mix →
      m.window.slot = some t → (s.dev.track t).parityOk = true → (s.dev.track t).body = .description x →
      st = (s.dev.track t).state →
      (st = .faulted →
        exec c s = .next { s with dev := Device.settle (
          { d with writeQueue := { v with beats := v.original, status := .ready } :: more }) }) ∧
      (st = .running ∨ st = .degraded ∨ st = .draining →
        ∀ (p : Int), p = mapFirst x.settings.ringFrames x.cursor (x.settings.firstFrame v.addr) →
        (p < x.cursor ∨ 4294967296 < p + 2 * v.original.length →
          exec c s = .next { s with dev := Device.settle (Device.setTrack
            { d with writeQueue := { v with beats := v.original, status := .ready } :: more } t
            { s.dev.track t with
              body := .description { x with
                counters := { x.counters with
                  revisits := min 65535 (x.counters.revisits + 1)
                  revisitFlag := true } } }) }) ∧
        ∀ (q : Nat) (f : LaneWork × List Beat) (need : List (Nat × Nat)), p = q → x.cursor ≤ q →
          q + 2 * v.original.length ≤ 4294967296 → (∀ u ∈ s.dev.trackClips t, u.2.parityOk = true) →
          f = LaneWork.process t q v.original ⟨x, s.dev.clipPool⟩ →
          need = neededSamples (s.dev.schedule t) q v.original →
          ((∀ k ∈ need, x.isStaged k.1 k.2 = true) → st = .draining → (need = [] ∨ x.degradedMark ≠ some true) →
            (∀ u ∈ s.dev.trackClips t, u.2.stop + 48 * x.settings.tail ≤ q + 2 * v.original.length) →
            (∀ u ∈ s.dev.trackClips t, u.2.start < u.2.stop) → v.original ≠ [] → m.entry.val = 3 + 2 * t.val →
            ∃ e, exec c s = .next { s with dev := e } ∧ e.track t = TrackContext.freeContext ∧
              e.reports = s.dev.reports.posted
                (.trackSummary t .description f.1.x.counters.laneFlags f.1.x.counters.words) ∧
              e.writeQueue.head? = some { v with found := none, beats := v.original, status := .ready } ∧
              (∀ u, u ≠ t → e.track u = s.dev.track u) ∧
              (∀ i : EntryNo, e.windows[i.val] =
                if i.val = 2 + 2 * t.val ∨ i.val = 3 + 2 * t.val then none else s.dev.windows[i.val]) ∧
              (∀ i a, e.clip i = some a ↔ s.dev.clip i = some a ∧ a.track ≠ t) ∧
              (∀ i a, e.cue i = some a ↔ s.dev.cue i = some a ∧ a.track ≠ t) ∧ e.engine = d.engine ∧
              e.monitor = d.monitor ∧ e.arbiter = d.arbiter ∧ e.ports = d.ports) ∧
          ((st = .draining → ∃ u ∈ s.dev.trackClips t,
              q + 2 * v.original.length < u.2.stop + 48 * x.settings.tail) →
            ((∀ k ∈ need, x.isStaged k.1 k.2 = true) ∨ st = .degraded ∧ x.underruns < 14 ∨
              st = .draining ∧ x.degradedMark = some true ∧ x.underruns < 14 →
              ∃ e y, exec c s = .next { s with dev := e } ∧ e.clipPool = f.1.pool ∧
                e.writeQueue = { v with beats := f.2, status := .ready } :: more ∧
                e.track t = { s.dev.track t with state := (e.track t).state, body := .description y } ∧
                y.cursor = q + 2 * v.original.length ∧ y.stagingBase = y.cursor ∧ y.held = none ∧ y.timer = .idle ∧
                y.meter = f.1.x.meter ∧ y.settings = x.settings ∧ y.lane = x.lane ∧
                (need = [] → y.underruns = x.underruns ∧ y.degradedMark = x.degradedMark ∧ (e.track t).state = st ∧
                  y.counters = f.1.x.counters ∧ e.reports = s.dev.reports) ∧
                (∀ u, u ≠ t → e.track u = s.dev.track u) ∧ e.cuePool = s.dev.cuePool ∧ e.windows = s.dev.windows ∧
                e.readList = d.readList ∧ e.outstanding = d.outstanding ∧ e.engine = d.engine ∧
                e.monitor = d.monitor ∧ e.arbiter = d.arbiter ∧ e.ports = d.ports) ∧
            ((∃ k ∈ need, x.isStaged k.1 k.2 = false) →
              (st = .running ∨ st = .draining ∧ x.degradedMark ≠ some true) →
              ∃ e y, exec c s = .next { s with dev := e } ∧ e.writeQueue = { v with status := .held } :: more ∧
                e.track t = { s.dev.track t with body := .description y } ∧
                y.held = some ⟨q, 2 * v.original.length⟩ ∧ y.stagingBase = q ∧
                y.timer = .running x.settings.holdLimit ∧ y.cursor = x.cursor ∧ y.underruns = x.underruns ∧
                y.counters = x.counters ∧ y.meter = x.meter ∧ y.settings = x.settings ∧
                (∀ u, u ≠ t → e.track u = s.dev.track u) ∧ e.cuePool = s.dev.cuePool ∧
                e.clipPool = s.dev.clipPool ∧ e.windows = s.dev.windows ∧ e.readList = d.readList ∧
                e.outstanding = d.outstanding ∧ e.reports = s.dev.reports ∧ e.engine = d.engine ∧
                e.arbiter = d.arbiter ∧ e.ports = d.ports)))

/-- A burst that needs a sample that is not staged is held under RUNNING handling: its mapping is recorded, the staging base is
its first position and the hold timer runs for the track's hold limit (R11, R153, R154). That the timer's running is kept as
its limit is the model's choice (log entry 3). -/
def Obligations.ShortBurstIsHeld : Prop :=
  ∀ (s : State) (id : Nat) (addr : Addr) (beats : List Beat) (m : WindowMatch) (t : Slot) (x : ClipTrack) (p : Nat),
    s.dev.resetN = true → s.dev.writeQueue = [] → burstOk addr beats.length = true → s.dev.engine.mode = .normal →
    s.dev.damagedWindows = [] → s.dev.lookup addr = some m → m.window.kind = .mix → m.window.slot = some t →
    (s.dev.track t).parityOk = true → (s.dev.track t).body = .description x → (s.dev.track t).state = .running →
    (∀ q ∈ s.dev.trackClips t, q.2.parityOk = true) →
    (p : Int) = mapFirst x.settings.ringFrames x.cursor (x.settings.firstFrame addr) → x.cursor ≤ p →
    p + 2 * beats.length - 1 ≤ 4294967295 →
    (∃ n ∈ neededSamples (s.dev.schedule t) p beats, x.isStaged n.1 n.2 = false) →
    ∃ e y, exec (.upstreamWrite id addr beats) s = .next { s with dev := e } ∧
      e.writeQueue = [⟨id, addr, beats, beats, some m, s.dev.nextArrival, .held⟩] ∧
      e.track t = { s.dev.track t with body := .description y } ∧ y.held = some ⟨p, 2 * beats.length⟩ ∧
      y.stagingBase = p ∧ y.timer = .running x.settings.holdLimit ∧ y.cursor = x.cursor ∧
      y.underruns = x.underruns ∧ y.counters = x.counters ∧ y.meter = x.meter ∧ y.settings = x.settings ∧
      (∀ q ∈ y.staged, q ∈ x.staged) ∧ (∀ u, u ≠ t → e.track u = s.dev.track u) ∧
      e.cuePool = s.dev.cuePool ∧ e.clipPool = s.dev.clipPool ∧ e.windows = s.dev.windows ∧
      e.readList = s.dev.readList ∧ e.outstanding = s.dev.outstanding ∧ e.reports = s.dev.reports ∧
      e.engine = s.dev.engine

/-- When the hold timer of a track under RUNNING handling expires, the held burst is processed and ready: partial beats are
unchanged, the cursor stands after the burst, the staging base returns to it and the underrun counter rises. At 8 LANE DEGRADED is
posted, and a RUNNING track enters DEGRADED, while a DRAINING one, some clip of it still to be played, sets its degraded mark (R46,
R148, R154, R158). That the command changes nothing where no burst is held is the model's choice (log entry 2). -/
def Obligations.HoldExpiryProcessesTheBurst : Prop :=
  (∀ s : State, s.dev.resetN = true → (∀ w ∈ s.dev.writeQueue.head?, w.status ≠ .held) →
    exec .holdTimerExpiry s = .next { s with dev := Device.settle { s.dev with ports := [] } }) ∧
  ∀ (s : State) (w : QueuedWrite) (rest : List QueuedWrite) (m : WindowMatch) (t : Slot) (x : ClipTrack)
    (h : HeldMapping) (limit : Nat), s.dev.resetN = true → s.dev.writeQueue = w :: rest → w.status = .held →
    w.found = some m → m.window.kind = .mix → m.window.slot = some t → (s.dev.track t).parityOk = true →
    (s.dev.track t).body = .description x →
    ((s.dev.track t).state = .running ∨
      (s.dev.track t).state = .draining ∧ x.degradedMark = some false ∧
        ∃ q ∈ s.dev.trackClips t, h.first + 2 * w.original.length < q.2.stop) →
    x.held = some h → x.timer = .running limit → x.cursor ≤ h.first → x.underruns ≤ 7 →
    (∀ q ∈ s.dev.trackClips t, q.2.parityOk = true) →
    ∃ e y beats, exec .holdTimerExpiry s = .next { s with dev := e } ∧
      e.writeQueue = { w with beats := beats, status := .ready } :: rest ∧
      List.Forall₂ (fun (a b : Beat) => if a.strobes = 255 then b.strobes = 255 else b = a) w.original beats ∧
      (e.track t).body = .description y ∧ y.held = none ∧ y.timer = .idle ∧
      y.cursor = h.first + 2 * w.original.length ∧ y.stagingBase = y.cursor ∧ y.underruns = x.underruns + 1 ∧
      y.counters.underruns = min 65535 (x.counters.underruns + 1) ∧ y.settings = x.settings ∧ y.lane = x.lane ∧
      (x.underruns < 7 → (e.track t).state = (s.dev.track t).state ∧ y.degradedMark = x.degradedMark ∧
        e.reports = s.dev.reports) ∧
      (x.underruns = 7 →
        (if (s.dev.track t).state = .running then (e.track t).state = .degraded ∧ y.degradedMark = x.degradedMark
          else (e.track t).state = .draining ∧ y.degradedMark = some true) ∧
        ∃ lead, lead ≤ 4096 ∧ e.reports = s.dev.reports.posted (.laneDegraded t x.lane y.cursor 8 lead)) ∧
      (∀ u, u ≠ t → e.track u = s.dev.track u) ∧ e.cuePool = s.dev.cuePool ∧
      (∀ i c, s.dev.clip i = some c → c.track ≠ t → e.clip i = some c) ∧
      (∀ i c, e.clip i = some c → ∃ b, s.dev.clip i = some b ∧ b.track = c.track ∧ b.start = c.start ∧ b.stop = c.stop) ∧
      e.windows = s.dev.windows ∧ e.readList = s.dev.readList ∧ e.outstanding = s.dev.outstanding ∧
      e.engine = s.dev.engine ∧ e.monitor = s.dev.monitor

/-- The response to a live sample read of a lane that holds no burst stages each sample of the read that is still wanted and not
staged: with its value from the data, or after ERROR with value 0 and the error mark, MEMORY ERROR posted and the SAMPLE ERROR
flag set. A staged sample that is wanted keeps its value (R17, R151). -/
def Obligations.SampleResponseIsStaged : Prop :=
  ∀ (s : State) (tag : Nat) (o : Outstanding) (l : LaneNo) (t : Slot) (x : ClipTrack) (r : SampleRead) (c : ClipEntry)
    (resp : Resp) (data : List Word), Answering s.dev tag o (.samples l) → o.tag = tag → data.length = o.count →
    s.dev.laneHolder l = some (t, x) → x.reads.find? (fun q => q.tag == tag) = some r → r.abandoned = false →
    (s.dev.track t).parityOk = true → (∀ q ∈ s.dev.trackClips t, q.2.parityOk = true) →
    ((s.dev.track t).state = .running ∨ (s.dev.track t).state = .degraded) → x.held = none →
    s.dev.clip r.clip = some c →
    ∃ e y, exec (.prefetchResponse tag resp data) s = .next { s with dev := e } ∧
      e.track t = { s.dev.track t with body := .description y } ∧
      (∀ k, r.first ≤ k → k < r.first + r.count → isWanted x.stagingBase (s.dev.schedule t) r.clip k = true →
        x.isStaged r.clip k = false →
        (resp = .ok →
          ⟨r.clip, k, BitVec.ofNat 16 (field (dataBytes data) (c.address.toNat + 2 * k - o.addr.toNat) 2), false, true⟩ ∈
            y.staged) ∧
        (resp = .error → ⟨r.clip, k, 0, true, true⟩ ∈ y.staged ∧ y.counters.sampleErrorFlag = true)) ∧
      (∀ q ∈ x.staged, isWanted x.stagingBase (s.dev.schedule t) q.clip q.index = true → q ∈ y.staged) ∧
      (∀ q ∈ y.staged, q ∈ x.staged ∨ (q.clip = r.clip ∧ r.first ≤ q.index ∧ q.index < r.first + r.count)) ∧
      (∀ q ∈ y.reads, q.tag ≠ tag) ∧ y.cursor = x.cursor ∧ y.stagingBase = x.stagingBase ∧ y.held = none ∧
      y.timer = x.timer ∧ y.underruns = x.underruns ∧ y.meter = x.meter ∧ y.settings = x.settings ∧
      y.lane = x.lane ∧ y.counters = { x.counters with sampleErrorFlag := y.counters.sampleErrorFlag } ∧
      (resp = .ok → y.counters = x.counters ∧ e.reports = s.dev.reports) ∧
      (resp = .error → e.reports = s.dev.reports.posted (.memoryError t (some l) o.addr o.count)) ∧
      (∀ u, u ≠ t → e.track u = s.dev.track u) ∧ e.cuePool = s.dev.cuePool ∧ e.clipPool = s.dev.clipPool ∧
      e.windows = s.dev.windows ∧ e.writeQueue = s.dev.writeQueue ∧ e.readList = s.dev.readList ∧
      e.engine = s.dev.engine

/-- A lane that mixes and makes no request brings its staging buffer up to its schedule: it keeps the staged samples that are wanted,
and marks the reads none of whose samples is wanted and unstaged. With fewer than 4 reads unanswered it requests the run at the
lowest position that calls for a read: the run's first sample, from the beat that holds it, in at most 16 beats that stay within a
4 KiB page, as far as the next samples call for a read and the burst holds them (R149, R150, R151). That an abandoned read covers
no sample, and still counts among the four until it is answered, is the model's reading (log entry 16). -/
def Obligations.LaneRequestsTheLowestRun : Prop :=
  ∀ (d : Device) (t : Slot) (x : ClipTrack), ScheduleSound d → (d.track t).body = .description x →
    ((d.track t).state = .running ∨ (d.track t).state = .degraded ∨ (d.track t).state = .draining) →
    x.request = none → (∀ q ∈ d.trackClips t, q.2.address.toNat % 2 = 0) →
    ∃ y, d.laneRefresh t = d.setTrack t { d.track t with body := .description y } ∧
      y = { x with staged := y.staged, reads := y.reads, request := y.request } ∧
      (∀ u, u ∈ y.staged ↔ u ∈ x.staged ∧ isWanted x.stagingBase (d.schedule t) u.clip u.index = true) ∧
      List.Forall₂ (fun r u => u = { r with abandoned := u.abandoned } ∧
        (u.abandoned = true ↔ r.abandoned = true ∨ ∀ k, r.first ≤ k → k < r.first + r.count →
          isWanted x.stagingBase (d.schedule t) r.clip k = true → x.isStaged r.clip k = true)) x.reads y.reads ∧
      (4 ≤ x.reads.length ∨ (∀ i k, ¬NeedsRead d t x i k) → y.request = none) ∧
      ∀ i k c a, x.reads.length < 4 → NeedsRead d t x i k → d.clip i = some c →
        (∀ j l b, NeedsRead d t x j l → d.clip j = some b → c.start + k ≤ b.start + l) →
        a = c.address.toNat + 2 * k →
        ∃ q, y.request = some q ∧ q.clip = i ∧ q.first = k ∧ q.stamp = d.nextArrival ∧
          q.addr = BitVec.ofNat 40 (a - a % 8) ∧ 1 ≤ q.beats ∧ q.beats ≤ 16 ∧ a % 4096 - a % 8 + 8 * q.beats ≤ 4096 ∧
          0 < q.count ∧ a % 8 + 2 * q.count ≤ 8 * q.beats ∧ 8 * (q.beats - 1) < a % 8 + 2 * q.count ∧
          (∀ l, k ≤ l → l < k + q.count → NeedsRead d t x i l) ∧
          (NeedsRead d t x i (k + q.count) → a % 8 + 2 * q.count = 8 * q.beats ∧
            (q.beats = 16 ∨ a % 4096 - a % 8 + 8 * q.beats = 4096))

/-- A burst that needs description and has every needed sample staged is answered forward at its offer, processed and mixed. Under
RUNNING handling the underrun counter becomes 0. Under DEGRADED handling the lane recovers, with LANE RECOVERED posted, if the
burst held the last frame of a clip or the staging lead is 2048 or more, and else keeps its counter. A held burst whose last
needed samples a response stages is processed and ready, and the counter becomes 0. Under DEGRADED handling, in DEGRADED or in
DRAINING with the mark set, a burst that lacks a needed sample goes on at once as an underrun burst, and at 15 of them the track
enters FAULTED (R46, R53, R144, R146, R148, R151, R153, R154, R158, R159). That the last frame of a clip is looked for on the
schedule as it stood before the burst, in partial beats too, and that a held burst left with nothing to need counts as complete,
is the model's reading (log entries 19 and 31), and so is the absence of the mark in FAULTED (log entry 25). -/
def Obligations.BurstIsMixedInFull : Prop :=
  (∀ (s : State) (id : Nat) (addr : Addr) (beats : List Beat) (m : WindowMatch) (t : Slot) (x : ClipTrack) (p : Nat)
    (st : TrackState), s.dev.resetN = true → s.dev.writeQueue = [] → Writing s.dev addr beats m → m.window.kind = .mix →
    m.window.slot = some t → (s.dev.track t).parityOk = true → (s.dev.track t).body = .description x →
    st = (s.dev.track t).state → (∀ q ∈ s.dev.trackClips t, q.2.parityOk = true) →
    (p : Int) = mapFirst x.settings.ringFrames x.cursor (x.settings.firstFrame addr) → x.cursor ≤ p →
    p + 2 * beats.length - 1 ≤ 4294967295 → neededSamples (s.dev.schedule t) p beats ≠ [] →
    (∀ f q, f = LaneWork.process t p beats ⟨x, s.dev.clipPool⟩ →
      q = ⟨id, addr, f.2, beats, some m, s.dev.nextArrival, .ready⟩ →
      ((∀ k ∈ neededSamples (s.dev.schedule t) p beats, x.isStaged k.1 k.2 = true) →
        (st = .running ∨ st = .degraded ∨
          st = .draining ∧ ∃ c ∈ s.dev.trackClips t, p + 2 * beats.length < c.2.stop + 48 * x.settings.tail) →
        ∃ e y, exec (.upstreamWrite id addr beats) s = .next { s with dev := e } ∧ e.writeQueue = [q] ∧
          e.track t = { s.dev.track t with state := (e.track t).state, body := .description y } ∧
          e.clipPool = f.1.pool ∧ y.cursor = p + 2 * beats.length ∧ y.stagingBase = y.cursor ∧ y.held = none ∧
          y.timer = .idle ∧ y.meter = f.1.x.meter ∧ y.counters = f.1.x.counters ∧ y.settings = x.settings ∧
          y.lane = x.lane ∧ (∀ u, u ≠ t → e.track u = s.dev.track u) ∧ e.cuePool = s.dev.cuePool ∧
          e.windows = s.dev.windows ∧ e.readList = s.dev.readList ∧ e.outstanding = s.dev.outstanding ∧
          e.engine = s.dev.engine ∧ e.monitor = s.dev.monitor ∧
          (st = .running ∨ st = .draining ∧ x.degradedMark ≠ some true →
            y.underruns = 0 ∧ (e.track t).state = st ∧ y.degradedMark = x.degradedMark ∧ e.reports = s.dev.reports) ∧
          (st = .degraded ∨ st = .draining ∧ x.degradedMark = some true →
            ∀ lead, lead = y.stagingLead (e.schedule t) →
            ((∃ c ∈ s.dev.trackClips t, p < c.2.stop ∧ c.2.stop ≤ p + 2 * beats.length) ∨ 2048 ≤ lead →
              y.underruns = 0 ∧ (st = .degraded → (e.track t).state = .running) ∧
                (st = .draining → (e.track t).state = .draining ∧ y.degradedMark = some false) ∧
                e.reports = s.dev.reports.posted (.laneRecovered t x.lane y.cursor lead)) ∧
            ((∀ c ∈ s.dev.trackClips t, ¬(p < c.2.stop ∧ c.2.stop ≤ p + 2 * beats.length)) → lead < 2048 →
              y.underruns = x.underruns ∧ (e.track t).state = st ∧ y.degradedMark = x.degradedMark ∧
                e.reports = s.dev.reports))) ∧
      ((∃ k ∈ neededSamples (s.dev.schedule t) p beats, x.isStaged k.1 k.2 = false) →
        (st = .degraded ∨ st = .draining ∧ x.degradedMark = some true ∧
          ∃ c ∈ s.dev.trackClips t, p + 2 * beats.length < c.2.stop + 48 * x.settings.tail) →
        x.underruns ≤ 14 →
        ∃ e y, exec (.upstreamWrite id addr beats) s = .next { s with dev := e } ∧ e.writeQueue = [q] ∧
          e.clipPool = f.1.pool ∧ (e.track t).body = .description y ∧ y.cursor = p + 2 * beats.length ∧
          y.underruns = x.underruns + 1 ∧ y.meter = f.1.x.meter ∧ y.held = none ∧
          y.counters = { f.1.x.counters with underruns := min 65535 (f.1.x.counters.underruns + 1) } ∧
          (∀ u, u ≠ t → e.track u = s.dev.track u) ∧ e.cuePool = s.dev.cuePool ∧ e.windows = s.dev.windows ∧
          e.outstanding = s.dev.outstanding ∧ e.engine = s.dev.engine ∧ e.monitor = s.dev.monitor ∧
          (x.underruns < 14 → (e.track t).state = st ∧ y.degradedMark = x.degradedMark ∧ e.reports = s.dev.reports) ∧
          (x.underruns = 14 → (e.track t).state = .faulted ∧ (e.track t).faultCause = some .underrun ∧
            y.request = none ∧ (∀ u ∈ y.reads, u.abandoned = true) ∧ y.degradedMark = none ∧
            e.reports = s.dev.reports.posted (.trackFaulted t .underrun st))))) ∧
  ∀ (s : State) (tag : Nat) (o : Outstanding) (l : LaneNo) (t : Slot) (x : ClipTrack) (r : SampleRead) (c : ClipEntry)
    (resp : Resp) (data : List Word) (w : QueuedWrite) (rest : List QueuedWrite) (h : HeldMapping),
    Answering s.dev tag o (.samples l) → o.tag = tag → data.length = o.count → s.dev.laneHolder l = some (t, x) →
    x.reads.find? (fun q => q.tag == tag) = some r → r.abandoned = false → (s.dev.track t).parityOk = true →
    (∀ q ∈ s.dev.trackClips t, q.2.parityOk = true) → (s.dev.track t).state = .running →
    Holding s.dev t x w rest h → w.original.length ≤ 16 → x.stagingBase = h.first → x.cursor ≤ h.first →
    s.dev.clip r.clip = some c →
    (∀ k ∈ neededSamples (s.dev.schedule t) h.first w.original, x.isStaged k.1 k.2 = true ∨
      k.1 = r.clip ∧ r.first ≤ k.2 ∧ k.2 < r.first + r.count) →
    ∃ e y v f, exec (.prefetchResponse tag resp data) s = .next { s with dev := e } ∧
      f = LaneWork.process t h.first w.original ⟨v, s.dev.clipPool⟩ ∧
      v = { x with
        staged := v.staged
        reads := v.reads
        request := v.request
        counters := { x.counters with sampleErrorFlag := v.counters.sampleErrorFlag } } ∧
      (∀ k ∈ neededSamples (s.dev.schedule t) h.first w.original, v.isStaged k.1 k.2 = true ∧
        (x.isStaged k.1 k.2 = false →
          (resp = .ok → (⟨k.1, k.2, BitVec.ofNat 16 (field (dataBytes data) (c.address.toNat + 2 * k.2 - o.addr.toNat) 2),
            false, true⟩ : StagedSample) ∈ v.staged) ∧
          (resp = .error → (⟨k.1, k.2, 0, true, true⟩ : StagedSample) ∈ v.staged))) ∧
      (∀ u ∈ v.staged, u ∈ x.staged ∨ u.clip = r.clip ∧ x.isStaged u.clip u.index = false) ∧
      e.writeQueue = { w with beats := f.2, status := .ready } :: rest ∧ e.clipPool = f.1.pool ∧
      e.track t = { s.dev.track t with body := .description y } ∧ y.held = none ∧ y.timer = .idle ∧
      y.cursor = h.first + 2 * w.original.length ∧ y.stagingBase = y.cursor ∧ y.underruns = 0 ∧
      y.meter = f.1.x.meter ∧ y.counters = f.1.x.counters ∧ y.settings = x.settings ∧ y.lane = x.lane ∧
      (∀ u, u ≠ t → e.track u = s.dev.track u) ∧ e.cuePool = s.dev.cuePool ∧ e.windows = s.dev.windows ∧
      e.readList = s.dev.readList ∧ e.outstanding = (s.dev.outstanding.filter fun q => q.tag != tag) ∧
      e.engine = s.dev.engine ∧ e.monitor = s.dev.monitor ∧
      e.reports = match resp with
        | .ok => s.dev.reports
        | .error => s.dev.reports.posted (.memoryError t (some l) o.addr o.count)

/-! ## Arithmetic -/

/-- R62: ticks is the rounded quotient, halfway does not arise, its steps follow the table, and it is strictly increasing. -/
def Obligations.TicksRoundAndIncrease : Prop :=
  (∀ code n d f, (code, n, d) ∈ rateTable →
    ticks code f = (2 * f * 48000 * d + n) / (2 * n) ∧ 2 * (ticks code f * n) < 2 * (f * 48000 * d) + n ∧
      2 * (f * 48000 * d) < 2 * (ticks code f * n) + n) ∧
  (∀ f, ticks 0 (f + 1) = ticks 0 f + 2002 ∧ ticks 1 (f + 1) = ticks 1 f + 2000 ∧
    ticks 2 (f + 1) = ticks 2 f + 1920 ∧ ticks 4 (f + 1) = ticks 4 f + 1600 ∧ ticks 5 (f + 1) = ticks 5 f + 960 ∧
    ticks 7 (f + 1) = ticks 7 f + 800 ∧
    ticks 3 (f + 1) = ticks 3 f + (if f % 5 = 1 ∨ f % 5 = 3 then 1601 else 1602) ∧
    ticks 6 (f + 1) = ticks 6 f + (if f % 5 = 2 then 800 else 801)) ∧
  ∀ code f g, code ≤ 7 → f < g → ticks code f < ticks code g

/-- Drop-frame labels that are used convert to consecutive counts from 0 to R60's largest, and a dropped label converts as the
label that it is adjusted to (R58, R60). -/
def Obligations.DropFrameLabelsAreConsecutive : Prop :=
  ∀ (code : Nat) (t : Timecode), code = 3 ∨ code = 6 → t.outOfRange code = false →
    (t.isDropped code true = false →
      (t = ⟨23, 59, 59, (rateOf code).nominal - 1⟩ → t.frames code true = if code = 3 then 2589407 else 5178815) ∧
      (t ≠ ⟨23, 59, 59, (rateOf code).nominal - 1⟩ →
        (nextLabel code t).outOfRange code = false ∧ (nextLabel code t).isDropped code true = false ∧
          (nextLabel code t).frames code true = t.frames code true + 1)) ∧
    (t.isDropped code true = true →
      t.frames code true = Timecode.frames code true { t with ff := (rateOf code).dropped }) ∧
    Timecode.frames code true ⟨0, 0, 0, 0⟩ = 0

/-- The envelope of a clip follows its table, stays between its gain and U, falls in the lead and rises in the tail (R137). -/
def Obligations.EnvelopeFollowsItsTable : Prop :=
  ∀ (e : ClipEntry) (tail g : Nat), e.lead ≤ e.start → e.start < e.stop → g ≤ 32768 →
    (∀ t, (t < e.start - e.lead → envelope e tail g t = 32768) ∧
      (e.start - e.lead ≤ t → t < e.start →
        envelope e tail g t = 32768 - (32768 - g) * (t - (e.start - e.lead)) / e.lead) ∧
      (e.start ≤ t → t < e.stop → envelope e tail g t = g) ∧
      (e.stop ≤ t → t < e.stop + tail → envelope e tail g t = g + (32768 - g) * (t - e.stop) / tail) ∧
      (e.stop + tail ≤ t → envelope e tail g t = 32768) ∧
      g ≤ envelope e tail g t ∧ envelope e tail g t ≤ 32768) ∧
    (∀ t u, t ≤ u → u < e.stop → envelope e tail g u ≤ envelope e tail g t) ∧
    ∀ t u, e.start ≤ t → t ≤ u → envelope e tail g t ≤ envelope e tail g u

/-- A clip that becomes ACTIVE has its gain resolved by its mode, DEFAULT taking the track's: FIXED gives the fixed gain; AUTO FAST
compares the level with the threshold and its band, gives the preset of the decision and remembers it; AUTO FULL gives the target
over the level, clamped, trimmed by 256 a step and clamped again. The counts of the way, of a result at the gain floor and of a
resolution without a block rise (R132, R133, R134, R135, R142). A burst processed whole carries every clip of the track to the
state of its last frame, resolves those that leave WAITING, and retires those whose e + T the cursor has reached, with their
counts; a clip that a gap carries from WAITING to its retirement is skipped (R124, R125). That a result equal to the floor counts
whether or not a clamp lifted it is the model's reading (log entry 23). -/
def Obligations.ClipsResolveReleaseAndRetire : Prop :=
  (∀ (w : LaneWork) (i : Nat) (e : ClipEntry) (g : Nat) (k : ClipCounters) (last : FastDecision),
    let c := w.x.settings
    let level := w.x.meter.level
    let bare := if w.x.meter.history = [] then min 65535 (w.x.counters.unmetered + 1) else w.x.counters.unmetered
    let clamp (v : Int) : Int := max (c.gainFloor : Int) (min 32768 v)
    ((e.mode = .fixed ∧ g = e.fixedGain ∨ e.mode = .trackDefault ∧ c.defaultMode = .fixed ∧ g = c.defaultGain) ∧
        last = w.x.meter.decision ∧
        k = { w.x.counters with resolvedFixed := min 65535 (w.x.counters.resolvedFixed + 1) } ∨
      (e.mode = .autoFast ∨ e.mode = .trackDefault ∧ c.defaultMode = .autoFast) ∧
        (last = if c.fastThreshold + c.fastBand < level then .deep
          else if (level : Int) < (c.fastThreshold : Int) - c.fastBand then .shallow else w.x.meter.decision) ∧
        (g = if last = .deep then c.deepPreset else c.shallowPreset) ∧
        k = { w.x.counters with
          resolvedDeep :=
            if last = .deep then min 65535 (w.x.counters.resolvedDeep + 1) else w.x.counters.resolvedDeep
          resolvedShallow :=
            if last = .deep then w.x.counters.resolvedShallow else min 65535 (w.x.counters.resolvedShallow + 1)
          unmetered := bare } ∨
      (e.mode = .autoFull ∨ e.mode = .trackDefault ∧ c.defaultMode = .autoFull) ∧ last = w.x.meter.decision ∧
        (g : Int) = clamp (clamp (if level = 0 then 32768 else (c.fullTarget * 32768 / level : Nat)) + c.trim * 256) ∧
        k = { w.x.counters with
          resolvedFull := min 65535 (w.x.counters.resolvedFull + 1)
          floorClamps := if g = c.gainFloor then min 65535 (w.x.counters.floorClamps + 1) else w.x.counters.floorClamps
          unmetered := bare }) →
    w.activate i e =
      { x := { w.x with meter := { w.x.meter with decision := last }, counters := k }
        pool := w.pool.setIfInBounds i (some { e with state := .active, gain := some g }) }) ∧
  ∀ (t : Slot) (p last : Nat) (beats : List Beat) (w v : LaneWork) (old new : Nat → Option ClipEntry),
    beats ≠ [] → w.x.cursor ≤ p → last = p + 2 * beats.length - 1 → v = (LaneWork.process t p beats w).1 →
    (old = fun i => (w.pool[i]?).join) → (new = fun i => (v.pool[i]?).join) →
    (∀ i c, old i = some c → c.track = t → c.start < c.stop) →
    (∀ i, (old i = none → new i = none) ∧ ∀ c, old i = some c → c.track ≠ t → new i = some c) ∧
    (∀ i c, old i = some c → c.track = t →
      (c.stop + 48 * w.x.settings.tail ≤ last + 1 → new i = none) ∧
      (last + 1 < c.stop + 48 * w.x.settings.tail →
        ∃ b, new i = some b ∧ b = { c with state := b.state, gain := b.gain } ∧
          b.state = (if c.state = .waiting ∧ last + c.lead < c.start then .waiting
            else if c.state ≠ .releasing ∧ last < c.stop then .active else .releasing) ∧
          (b.state = .waiting ∨ c.state ≠ .waiting → b.gain = c.gain) ∧
          (c.state = .waiting → b.state ≠ .waiting → ∃ g, b.gain = some g ∧
            (c.mode = .fixed → g = c.fixedGain) ∧
            (c.mode = .autoFast → g = w.x.settings.deepPreset ∨ g = w.x.settings.shallowPreset) ∧
            (c.mode = .autoFull → w.x.settings.gainFloor ≤ g ∧ g ≤ max w.x.settings.gainFloor 32768)))) ∧
    ∀ gone, gone = (scheduleIn t w.pool).filter (fun c => decide (c.2.stop + 48 * w.x.settings.tail ≤ last + 1)) →
      w.x.counters.retired ≤ 65535 → w.x.counters.skipped ≤ 65535 → w.x.counters.shifted ≤ 65535 →
      w.x.counters.leadClipped ≤ 65535 →
      v.x.counters.retired = min 65535 (w.x.counters.retired + gone.length) ∧
      v.x.counters.shifted = min 65535 (w.x.counters.shifted + gone.countP fun c => c.2.shifted) ∧
      v.x.counters.leadClipped = min 65535 (w.x.counters.leadClipped + gone.countP fun c => c.2.leadClipped) ∧
      v.x.counters.skipped = min 65535 (w.x.counters.skipped + gone.countP fun c =>
        decide (w.x.cursor < p ∧ c.2.state = .waiting ∧ c.2.stop + 48 * w.x.settings.tail ≤ p))

/-- A frame of the mix ring is mapped to the one position of its residue in [C − Rf/2, C + Rf/2) (R144). -/
def Obligations.RingFrameHasOnePosition : Prop :=
  ∀ (rf cursor f0 : Nat), 16384 ≤ rf → rf % 2 = 0 → f0 < rf →
    (∃ k : Int, mapFirst rf cursor f0 = f0 + k * rf) ∧
    (cursor : Int) - rf / 2 ≤ mapFirst rf cursor f0 ∧ mapFirst rf cursor f0 < cursor + rf / 2 ∧
    (∀ p k : Int, p = f0 + k * rf → (cursor : Int) - rf / 2 ≤ p → p < cursor + rf / 2 → p = mapFirst rf cursor f0) ∧
    (cursor < rf / 2 → rf / 2 + cursor ≤ f0 → mapFirst rf cursor f0 < 0)

/-- R156's mix of a frame: the rounded product sum, limited to the range of a sample and counted where it is limited; with duck
gain U and no description the programme sample passes unchanged. -/
def Obligations.FrameIsMixedAndLimited : Prop :=
  (∀ x g d dg : Int, -32768 ≤ x → x ≤ 32768 → 0 ≤ g → g ≤ 32768 → -32768 ≤ d → d ≤ 32768 → 0 ≤ dg → dg ≤ 32768 →
    -2147483648 ≤ x * g + d * dg ∧ x * g + d * dg ≤ 2147483648) ∧
  (∀ x g d dg : Int, 32768 * mixValue x g d dg ≤ x * g + d * dg + 16384 ∧
    x * g + d * dg + 16384 < 32768 * mixValue x g d dg + 32768 ∧ mixValue x 32768 0 dg = x) ∧
  (∀ y : Int, -32768 ≤ limitSample y ∧ limitSample y ≤ 32767 ∧ (-32768 ≤ y → y ≤ 32767 → limitSample y = y) ∧
    (32767 < y → limitSample y = 32767) ∧ (y < -32768 → limitSample y = -32768)) ∧
  ∀ (t : Slot) (left right : Int) (w : LaneWork) (g : Int) (d : Int) (dg : Nat) (y : ClipTrack),
    g = duckGain w.x.settings.tailTicks w.x.cursor (scheduleIn t w.pool) →
    w.x.takeSample (playingClip w.x.cursor (scheduleIn t w.pool)) w.x.cursor = (d, dg, y) →
    ((w.mixFrame t left right).2.extractLsb' 0 16).toInt = limitSample (mixValue left g d dg) ∧
    ((w.mixFrame t left right).2.extractLsb' 16 16).toInt = limitSample (mixValue right g d dg) ∧
    (y.counters.saturated ≤ 65535 → (w.mixFrame t left right).1.x.counters.saturated =
      min 65535 (y.counters.saturated +
        (if limitSample (mixValue left g d dg) = mixValue left g d dg then 0 else 1) +
        if limitSample (mixValue right g d dg) = mixValue right g d dg then 0 else 1))

/-- A jump of the cursor completes the current block and adds a zero sum for each block that it passes whole, the oldest dropped
until 10 remain, and the level is the mean of the sums, at most 32768 (R128, R130, R131). -/
def Obligations.MeterCompletesBlocks : Prop :=
  (∀ (m : Meter) (pos : Nat),
    (pos < 4800 * (m.block + 1) → m.advanced pos = m) ∧
    (4800 * (m.block + 1) ≤ pos →
      (m.advanced pos).block = pos / 4800 ∧ (m.advanced pos).accumulator = 0 ∧
        (m.advanced pos).decision = m.decision ∧ (m.advanced pos).history.length ≤ 10 ∧
        ∀ all, all = m.history ++ (m.block, m.accumulator) ::
            (List.range' (m.block + 1) (pos / 4800 - m.block - 1)).map (fun j => (j, 0)) →
          (m.advanced pos).history = all.drop (all.length - 10))) ∧
  ∀ m : Meter, (m.history = [] → m.level = 0) ∧
    (m.history ≠ [] → m.level = (m.history.map Prod.snd).sum / (2 * 4800 * m.history.length)) ∧
    ((∀ q ∈ m.history, q.2 ≤ 2 * 4800 * 32768) → m.level ≤ 32768)

/-! ## Captures -/

/-- A captured cue record that passes every check is accepted: it takes the lowest-numbered free pool entry, holds its intake slot,
and stands on the first candidate row that no ACTIVE cue of its track occupies during its frames, late start shifted and short
duration extended. The gap rule moves the end of each earlier ACTIVE cue that meets its conditions, in active-list order. The
horizon and the counts rise, and a RUNNING track makes a close decision (R76, R77, R78, R79, R80, R82, R83, R84, R85, R86, R87,
R88). -/
def Obligations.AcceptedCueIsPlaced : Prop :=
  ∀ (s : State) (id : Nat) (addr : Addr) (beats : List Beat) (m : WindowMatch) (t : Slot) (x : TextTrack) (n : Nat)
    (r : CueRecord) (code first last start stop number row : Nat) (df : Bool) (before after : List Nat),
    s.dev.resetN = true → Writing s.dev addr beats m → m.window.kind = .textIntake → m.window.slot = some t →
    wholeRecord 128 m.window.base addr beats = true → n = (addr.toNat - m.window.base.toNat) / 128 →
    s.dev.slotHeld t n = false → (s.dev.track t).parityOk = true → (s.dev.track t).body = .text x →
    ((s.dev.track t).state = .running ∨ (s.dev.track t).state = .stalled) →
    (∀ q ∈ s.dev.trackCues t, q.2.status = .active → q.2.parityOk = true) →
    r = parseCue (beatsBytes beats) → code = x.settings.rate.code → df = x.settings.rate.dropFrame →
    r.invalid code = none → first = r.start.frames code df → last = r.stop.frames code df → first < last →
    x.settings.rate.origin < last → ticks code (last - x.settings.rate.origin) ≤ 4151263199 →
    (x.openStart ≤ first - x.settings.rate.origin ∨
      x.openStart < last - x.settings.rate.origin ∧ x.tuning.late = .shift) →
    start = max (first - x.settings.rate.origin) x.openStart →
    stop = max (last - x.settings.rate.origin) (start + x.settings.minDuration) →
    ((s.dev.trackCues t).length < x.settings.reserve ∨ s.dev.cuesOwed t < 256 - s.dev.cuesInUse) →
    number < 256 → s.dev.cue number = none → (∀ j < number, (s.dev.cue j).isSome = true) →
    candidateRows r.anchor r.anchorRow r.height = before ++ row :: after →
    (∀ c ∈ before, ∃ q ∈ s.dev.activeCues t, q.2.start < stop ∧ start < q.2.stop ∧ q.2.row < c + r.height ∧
      c < q.2.row + q.2.height) →
    (∀ q ∈ s.dev.activeCues t, ¬(q.2.start < stop ∧ start < q.2.stop ∧ q.2.row < row + r.height ∧
      row < q.2.row + q.2.height)) →
    ∃ a z entry moves,
      exec (.upstreamWrite id addr beats) s = .next { s with dev := Device.settle (Device.offerHead
        (if (s.dev.track t).state = .running then a.decideClose t (Joined s.dev id addr beats m) else a)) } ∧
      a = { Device.setTrack (Joined s.dev id addr beats m) t { s.dev.track t with body := .text z } with
        cuePool := a.cuePool } ∧
      a.cue number = some entry ∧ a.slotHeld t n = true ∧
      entry =
        { track := t
          intakeSlot := n
          hostId := r.hostId
          start := start
          stop := stop
          row := row
          height := r.height
          style := r.style
          flags := entry.flags
          arrival := x.nextArrival
          status := .active
          parityOk := true } ∧
      (entry.flags.lateShifted = true ↔ first - x.settings.rate.origin < x.openStart) ∧
      (entry.flags.extended = true ↔ last - x.settings.rate.origin < start + x.settings.minDuration) ∧
      (entry.flags.moved = true ↔ before ≠ [] ∨ r.anchor = 2 ∧ 16 - r.height < r.anchorRow) ∧
      (entry.flags.overrate = true ↔ 0 < x.settings.cps ∧
        x.settings.cps * (stop - start) * (rateOf code).den < characters r.text * (rateOf code).num) ∧
      (entry.flags.overwidth = true ↔ ∃ l ∈ textLines r.text, x.settings.columns < characters l) ∧
      entry.flags.gapClosed = false ∧
      (∀ earlier i c later, s.dev.activeCues t = earlier ++ (i, c) :: later →
        let closes := c.stop < start ∧ start - c.stop < x.settings.minGap ∧ c.row < row + r.height ∧
          row < c.row + c.height ∧ x.openStart ≤ c.stop ∧
          (∀ q ∈ earlier, ∀ f, a.cue q.1 = some f → f.blocks c.stop start c.row c.height = false) ∧
          ∀ q ∈ later, q.2.blocks c.stop start c.row c.height = false
        (closes → a.cue i = some { c with stop := start, flags := { c.flags with gapClosed := true } }) ∧
          (¬closes → a.cue i = some c)) ∧
      (∀ i, i ≠ number → (∀ q ∈ s.dev.activeCues t, q.1 ≠ i) → a.cue i = s.dev.cue i) ∧
      moves = ((s.dev.activeCues t).filter fun q => a.cue q.1 ≠ some q.2).length ∧
      z = { x with
        horizon := some (max start (x.horizon.getD 0))
        nextArrival := x.nextArrival + 1
        counters := { x.counters with
          captured := min 65535 (x.counters.captured + 1)
          accepted := min 65535 (x.counters.accepted + 1)
          timecodeAdjusted :=
            if r.start.isDropped code df ∨ r.stop.isDropped code df then min 65535 (x.counters.timecodeAdjusted + 1)
            else x.counters.timecodeAdjusted
          lateShifted :=
            if entry.flags.lateShifted then min 65535 (x.counters.lateShifted + 1) else x.counters.lateShifted
          extended := if entry.flags.extended then min 65535 (x.counters.extended + 1) else x.counters.extended
          moved := if entry.flags.moved then min 65535 (x.counters.moved + 1) else x.counters.moved
          overrate := if entry.flags.overrate then min 65535 (x.counters.overrate + 1) else x.counters.overrate
          overwidth := if entry.flags.overwidth then min 65535 (x.counters.overwidth + 1) else x.counters.overwidth
          gapClosures := min 65535 (x.counters.gapClosures + moves) } }

/-- A captured clip record that passes every check is scheduled: it takes the lowest-numbered free pool entry, holds its intake
slot, and starts at its requested tick, or where the clip before it ends. The clips after it that it pushes, each of them
WAITING, start where the clip before them now ends, and have their lead set anew. The counts rise, the change reaches the staging
buffer, and a held burst is tested (R117, R118, R119, R120, R121, R122, R123, R127, R152). That a request which the change brings
about waits for the captured write too, and that a held burst left with nothing to need is complete, is the model's choice and
reading (log entries 15 and 31). -/
def Obligations.AcceptedClipIsScheduled : Prop :=
  ∀ (s : State) (id : Nat) (addr : Addr) (beats : List Beat) (m : WindowMatch) (t : Slot) (x : ClipTrack) (n : Nat)
    (r : ClipRecord) (wanted start tail lead number : Nat) (mode : DuckMode) (after : List (Nat × ClipEntry)),
    s.dev.resetN = true → Writing s.dev addr beats m → ScheduleSound s.dev → m.window.kind = .clipIntake →
    m.window.slot = some t → wholeRecord 128 m.window.base addr beats = true →
    n = (addr.toNat - m.window.base.toNat) / 128 → s.dev.slotHeld t n = false → (s.dev.track t).parityOk = true →
    (s.dev.track t).body = .description x →
    ((s.dev.track t).state = .running ∨ (s.dev.track t).state = .degraded) →
    (∀ q ∈ s.dev.trackClips t, q.2.parityOk = true) →
    r = parseClip (beatsBytes beats) → r.invalid = none → r.badTimes x.settings = none → duckModeOf r.mode = some mode →
    wanted = r.requested x.settings → x.cursor ≤ wanted → tail = 48 * x.settings.tail → lead = 48 * x.settings.lead →
    ((s.dev.trackClips t).length < x.settings.reserve ∨ s.dev.clipsOwed t < 64 - s.dev.clipsInUse) →
    number < 64 → s.dev.clip number = none → (∀ j < number, (s.dev.clip j).isSome = true) →
    wanted ≤ start → (∀ q ∈ s.dev.trackClips t, q.2.start ≤ wanted → q.2.stop ≤ start) →
    (start = wanted ∨ (∃ q ∈ s.dev.trackClips t, q.2.start ≤ wanted ∧ q.2.stop = start) ∧
      start + r.duration + tail ≤ 4151263199) →
    after = (s.dev.schedule t).filter (fun q => decide (wanted < q.2.start)) →
    (∀ earlier i c later pushed, after = earlier ++ (i, c) :: later →
      pushed = start + r.duration + (earlier.map fun q => q.2.stop - q.2.start).sum → c.start < pushed →
      c.state = .waiting ∧ pushed + (c.stop - c.start) + tail ≤ 4151263199) →
    ∃ a z,
      exec (.upstreamWrite id addr beats) s = .next { s with dev := Device.settle (Device.offerHead
        (Device.completionTest (Device.laneRefresh a t) t)) } ∧
      a = { Device.setTrack (Joined s.dev id addr beats m) t { s.dev.track t with body := .description z } with
        clipPool := a.clipPool } ∧
      a.slotHeld t n = true ∧
      a.clip number = some
        { track := t
          intakeSlot := n
          hostId := r.hostId
          start := start
          stop := start + r.duration
          lead := if x.cursor + lead ≤ start then lead else start - x.cursor
          address := r.address
          level := if r.level = 0xFFFF then x.settings.defaultLevel else r.level
          mode := mode
          fixedGain := r.fixedGain
          gain := none
          shifted := decide (wanted < start)
          leadClipped := decide (start < x.cursor + lead)
          state := .waiting
          parityOk := true } ∧
      (∀ earlier i c later pushed, after = earlier ++ (i, c) :: later →
        pushed = start + r.duration + (earlier.map fun q => q.2.stop - q.2.start).sum →
        (pushed ≤ c.start → a.clip i = some c) ∧
          (c.start < pushed → a.clip i = some
            { c with
              start := pushed
              stop := pushed + (c.stop - c.start)
              shifted := true
              lead := if x.cursor + lead ≤ pushed then lead else pushed - x.cursor
              leadClipped := decide (pushed < x.cursor + lead) })) ∧
      (∀ i, i ≠ number → (∀ q ∈ after, q.1 ≠ i) → a.clip i = s.dev.clip i) ∧
      z = { x with
        counters := { x.counters with
          captured := min 65535 (x.counters.captured + 1)
          accepted := min 65535 (x.counters.accepted + 1)
          timecodeAdjusted :=
            if r.start.isDropped x.settings.rate.code x.settings.rate.dropFrame then
              min 65535 (x.counters.timecodeAdjusted + 1)
            else x.counters.timecodeAdjusted
          cascadeShifts :=
            min 65535 (x.counters.cascadeShifts + (after.filter fun q => a.clip q.1 ≠ some q.2).length) } }

/-- A captured cue record that fails a step of its intake is dropped for the first reason that applies: it is counted, with the
captures and the timecodes adjusted, and CUE DROPPED is posted with what its reason carries. In DRAINING every record is dropped
with DRAINING, and in FAULTED discarded. Its write joins the write queue in every case. A partial write is counted, in FAULTED not
(R53, R57, R72, R74, R75, R76, R77, R78, R80, R83, R90, R91). A cue not late goes on to the next step, and so does a late one
under SHIFT that ends after the start of the open segment (R77). That a NO ROOM drop carries MOVED for a clamped anchor row is the
model's reading (log entry 21). -/
def Obligations.CuesAreDroppedInOrder : Prop :=
  (∀ (d : Device) (t : Slot) (x : TextTrack) (n : Nat) (r : CueRecord) (adjusted : Bool) (start stop : Nat),
    (x.openStart ≤ start → lateCheckCue d t x n r adjusted start stop = extendCue d t x n r adjusted false start stop) ∧
    (start < x.openStart → x.openStart < stop → x.tuning.late = .shift →
      lateCheckCue d t x n r adjusted start stop = extendCue d t x n r adjusted true x.openStart stop) ∧
    (start < x.openStart → (stop ≤ x.openStart ∨ x.tuning.late = .drop) →
      ∃ drop, lateCheckCue d t x n r adjusted start stop = .dropped adjusted drop ∧ drop.reason = .late ∧
        drop.openStart = some x.openStart ∧ drop.intakeSlot = n ∧ drop.hostId = r.hostId)) ∧
  (∀ (s : State) (id : Nat) (addr : Addr) (beats : List Beat) (m : WindowMatch) (t : Slot) (n : Nat) (x : TextTrack)
    (r : CueRecord), Capturing s.dev addr beats m t n → m.window.kind = .textIntake →
    (s.dev.track t).body = .text x → r = parseCue (beatsBytes beats) →
    ((s.dev.track t).state = .running ∨ (s.dev.track t).state = .stalled →
      ∀ before applies adjusted drop after, cueDrops s.dev t x n r = before ++ (applies, adjusted, drop) :: after →
        (∀ q ∈ before, ¬q.1) → applies →
        (drop.reason = .noRoom → ∀ q ∈ s.dev.trackCues t, q.2.status = .active → q.2.parityOk = true) →
        exec (.upstreamWrite id addr beats) s = .next { s with dev := Device.settle (Device.offerHead
          (cueDropped (Joined s.dev id addr beats m) t x adjusted drop)) }) ∧
    ((s.dev.track t).state = .draining →
      exec (.upstreamWrite id addr beats) s = .next { s with dev := Device.settle (Device.offerHead
        (cueDropped (Joined s.dev id addr beats m) t x false
          ⟨.draining, .none, n, r.hostId, none, CueFlags.noFlags, none, none, none⟩)) }) ∧
    ((s.dev.track t).state = .faulted →
      exec (.upstreamWrite id addr beats) s = .next { s with dev := Device.settle (Device.offerHead
        (Joined s.dev id addr beats m)) })) ∧
  ∀ (s : State) (id : Nat) (addr : Addr) (beats : List Beat) (m : WindowMatch) (t : Slot) (x : TextTrack),
    WritingPart s.dev addr beats m t → m.window.kind = .textIntake → (s.dev.track t).body = .text x →
    ((s.dev.track t).state = .running ∨ (s.dev.track t).state = .stalled ∨ (s.dev.track t).state = .draining →
      exec (.upstreamWrite id addr beats) s = .next { s with dev := Device.settle (Device.offerHead
        (Device.setTrack (Joined s.dev id addr beats m) t { s.dev.track t with
          body := .text { x with
            counters := { x.counters with partialWrites := min 65535 (x.counters.partialWrites + 1) } } })) }) ∧
    ((s.dev.track t).state = .faulted →
      exec (.upstreamWrite id addr beats) s = .next { s with dev := Device.settle (Device.offerHead
        (Joined s.dev id addr beats m)) })

/-- A captured clip record that fails a step of its intake is dropped for the first reason that applies: it is counted, with the
captures and the timecodes adjusted, and CLIP DROPPED is posted with what its reason carries. One that would push a clip whose
ramp has begun is dropped with COLLISION and names that clip; one whose own shift or cascade passes the timeline limit, with RANGE;
no clip is moved then. In DRAINING every record is dropped with DRAINING, and in FAULTED discarded. Its write joins the write queue
in every case. A partial write is counted, in FAULTED not (R53, R57, R115, R117, R118, R119, R121, R122, R127). That a drop at
step 1 carries no times is the model's reading (log entry 22). -/
def Obligations.ClipsAreDroppedInOrder : Prop :=
  (∀ (d : Device) (t : Slot) (x : ClipTrack) (n : Nat) (r : ClipRecord), r.invalid = none →
    r.badTimes x.settings = none → r.requested x.settings < x.cursor →
    ∃ adjusted drop, decideClip d t x n r = .dropped adjusted drop ∧ drop.reason = .late ∧ drop.detail = .none ∧
      drop.times = some (r.requested x.settings, r.requested x.settings + r.duration) ∧ drop.cursor = some x.cursor ∧
      drop.intakeSlot = n ∧ drop.hostId = r.hostId) ∧
  (∀ (s : State) (id : Nat) (addr : Addr) (beats : List Beat) (m : WindowMatch) (t : Slot) (n : Nat) (x : ClipTrack)
    (r : ClipRecord), Capturing s.dev addr beats m t n → m.window.kind = .clipIntake →
    (s.dev.track t).body = .description x → r = parseClip (beatsBytes beats) →
    ((s.dev.track t).state = .running ∨ (s.dev.track t).state = .degraded →
      (∀ before applies adjusted drop after, clipDrops s.dev t x n r = before ++ (applies, adjusted, drop) :: after →
        (∀ q ∈ before, ¬q.1) → applies →
        exec (.upstreamWrite id addr beats) s = .next { s with dev := Device.settle (Device.offerHead
          (clipDropped (Joined s.dev id addr beats m) t x adjusted drop)) }) ∧
      ((∀ q ∈ clipDrops s.dev t x n r, ¬q.1) → s.dev.clipsInUse < 64 → ScheduleSound s.dev →
        (∀ q ∈ s.dev.trackClips t, q.2.parityOk = true) →
        ∀ wanted start adjusted (after : List (Nat × ClipEntry)), wanted = wantedTick x r → wanted ≤ start →
        (∀ q ∈ s.dev.trackClips t, q.2.start ≤ wanted → q.2.stop ≤ start) →
        (start = wanted ∨ ∃ q ∈ s.dev.trackClips t, q.2.start ≤ wanted ∧ q.2.stop = start) →
        adjusted = r.start.isDropped x.settings.rate.code x.settings.rate.dropFrame →
        after = (s.dev.schedule t).filter (fun q => decide (wanted < q.2.start)) →
        (∀ earlier i c later, after = earlier ++ (i, c) :: later → (∀ q ∈ earlier, q.2.state = .waiting) →
          c.state ≠ .waiting → c.start < start + r.duration + (earlier.map fun q => q.2.stop - q.2.start).sum →
          exec (.upstreamWrite id addr beats) s = .next { s with dev := Device.settle (Device.offerHead
            (clipDropped (Joined s.dev id addr beats m) t x adjusted
              ⟨.late, .collision, n, r.hostId, some (wanted, wanted + r.duration), some x.cursor,
                some (c.hostId, c.start), none⟩)) }) ∧
        ((∀ earlier i c later, after = earlier ++ (i, c) :: later →
            c.start < start + r.duration + (earlier.map fun q => q.2.stop - q.2.start).sum → c.state = .waiting) →
          (start ≠ wanted ∧ 4151263199 < start + r.duration + 48 * x.settings.tail ∨
            ∃ earlier i c later pushed, after = earlier ++ (i, c) :: later ∧
              pushed = start + r.duration + (earlier.map fun q => q.2.stop - q.2.start).sum ∧ c.start < pushed ∧
              4151263199 < pushed + (c.stop - c.start) + 48 * x.settings.tail) →
          exec (.upstreamWrite id addr beats) s = .next { s with dev := Device.settle (Device.offerHead
            (clipDropped (Joined s.dev id addr beats m) t x adjusted
              ⟨.malformed, .range, n, r.hostId, some (wanted, wanted + r.duration), none, none, none⟩)) }))) ∧
    ((s.dev.track t).state = .draining →
      exec (.upstreamWrite id addr beats) s = .next { s with dev := Device.settle (Device.offerHead
        (clipDropped (Joined s.dev id addr beats m) t x false
          ⟨.draining, .none, n, r.hostId, none, none, none, none⟩)) }) ∧
    ((s.dev.track t).state = .faulted →
      exec (.upstreamWrite id addr beats) s = .next { s with dev := Device.settle (Device.offerHead
        (Joined s.dev id addr beats m)) })) ∧
  ∀ (s : State) (id : Nat) (addr : Addr) (beats : List Beat) (m : WindowMatch) (t : Slot) (x : ClipTrack),
    WritingPart s.dev addr beats m t → m.window.kind = .clipIntake → (s.dev.track t).body = .description x →
    ((s.dev.track t).state = .running ∨ (s.dev.track t).state = .degraded ∨ (s.dev.track t).state = .draining →
      exec (.upstreamWrite id addr beats) s = .next { s with dev := Device.settle (Device.offerHead
        (Device.setTrack (Joined s.dev id addr beats m) t { s.dev.track t with
          body := .description { x with
            counters := { x.counters with partialWrites := min 65535 (x.counters.partialWrites + 1) } } })) }) ∧
    ((s.dev.track t).state = .faulted →
      exec (.upstreamWrite id addr beats) s = .next { s with dev := Device.settle (Device.offerHead
        (Joined s.dev id addr beats m)) })

/-! ## What every step keeps -/

/-- Every step keeps the queues and counts within their sizes (R9, R12, R15, R16, R21, R24, R162, R172). After every step ATTN stands
at its level: high in BYPASS or while a report is unread, low in reset (R167, R171). -/
def Obligations.StepKeepsTheBoundsAndAttn : Prop :=
  (∀ s s' : State, Bounded s.dev → step s = .next s' → Bounded s'.dev) ∧
  ∀ s s' : State, AttnFollows s.dev → step s = .next s' → AttnFollows s'.dev

/-- In BYPASS every slot stays FREE and the pools stay empty (R174, R176). -/
def Obligations.StepKeepsBypassClear : Prop :=
  ∀ s s' : State, BypassClear s.dev → step s = .next s' → BypassClear s'.dev

/-- The head of the write queue, and no entry behind it, has been dealt with after every step (R10, R11). -/
def Obligations.StepKeepsQueueInOrder : Prop :=
  ∀ s s' : State, QueueInOrder s.dev → step s = .next s' → QueueInOrder s'.dev

/-- No two live windows share a byte after any step, and entries 0 and 1 follow their sources (R2, R4, R20). -/
def Obligations.StepKeepsTheWindows : Prop :=
  ∀ s s' : State, WindowsSound s.dev → step s = .next s' → WindowsSound s'.dev

/-- No two ACTIVE cues of a track ever share a row during a common frame (R83, R84). -/
def Obligations.StepKeepsTheScreen : Prop :=
  ∀ s s' : State, ScreenSound s.dev → step s = .next s' → ScreenSound s'.dev

/-- An intake slot of a track is held by one pool entry at most after every step: a write that touches a held slot is fenced (R6, R7,
R79, R120). -/
def Obligations.StepKeepsHoldsUnique : Prop :=
  ∀ s s' : State, HoldsUnique s.dev → step s = .next s' → HoldsUnique s'.dev

/-- The clips on a schedule never overlap in [s, e) after any step (R122). -/
def Obligations.StepKeepsTheSchedule : Prop :=
  ∀ s s' : State, ScheduleSound s.dev → step s = .next s' → ScheduleSound s'.dev

/-- What is unread, in writing and queued fits into the report ring after every step (R162, R163). -/
def Obligations.StepKeepsTheReportRing : Prop :=
  ∀ s s' : State, RingFits s.dev → step s = .next s' → RingFits s'.dev

/-- After every step a slot holds a body exactly in the states that hold a pool, no lane is held twice, and the reserves fit into
the pools (R35, R36, R41, R42). -/
def Obligations.StepKeepsTheTracks : Prop :=
  ∀ s s' : State, TracksShaped s.dev → LanesUnique s.dev → ReservesFit s.dev → step s = .next s' →
    TracksShaped s'.dev ∧ LanesUnique s'.dev ∧ ReservesFit s'.dev

/-- No step moves the mix cursor of an open track back (R148). -/
def Obligations.StepNeverMovesACursorBack : Prop :=
  ∀ s s' : State, TracksShaped s.dev → step s = .next s' → CursorsAdvance s.dev s'.dev
end

