-- ==== Sys2Proof/Laws/State.lean ====
section
/-! SUPPORT. One lemma for each field of the device under each of its updates, true by rfl, so that no proof unfolds a record
update. -/

namespace Sys2Proof.Machine

open Sys2Proof

/-! ## setTrack -/

@[simp] theorem Device.setTrack_resetN (d : Device) (t : Slot) (c : TrackContext) : (d.setTrack t c).resetN = d.resetN := rfl
@[simp] theorem Device.setTrack_attn (d : Device) (t : Slot) (c : TrackContext) : (d.setTrack t c).attn = d.attn := rfl
@[simp] theorem Device.setTrack_strapLatch (d : Device) (t : Slot) (c : TrackContext) : (d.setTrack t c).strapLatch = d.strapLatch := rfl
@[simp] theorem Device.setTrack_windows (d : Device) (t : Slot) (c : TrackContext) : (d.setTrack t c).windows = d.windows := rfl
@[simp] theorem Device.setTrack_writeQueue (d : Device) (t : Slot) (c : TrackContext) : (d.setTrack t c).writeQueue = d.writeQueue := rfl
@[simp] theorem Device.setTrack_readList (d : Device) (t : Slot) (c : TrackContext) : (d.setTrack t c).readList = d.readList := rfl
@[simp] theorem Device.setTrack_presented (d : Device) (t : Slot) (c : TrackContext) : (d.setTrack t c).presented = d.presented := rfl
@[simp] theorem Device.setTrack_arbiter (d : Device) (t : Slot) (c : TrackContext) : (d.setTrack t c).arbiter = d.arbiter := rfl
@[simp] theorem Device.setTrack_outstanding (d : Device) (t : Slot) (c : TrackContext) : (d.setTrack t c).outstanding = d.outstanding := rfl
@[simp] theorem Device.setTrack_engine (d : Device) (t : Slot) (c : TrackContext) : (d.setTrack t c).engine = d.engine := rfl
@[simp] theorem Device.setTrack_tracks (d : Device) (t : Slot) (c : TrackContext) : (d.setTrack t c).tracks = d.tracks.set t.val c := rfl
@[simp] theorem Device.setTrack_cuePool (d : Device) (t : Slot) (c : TrackContext) : (d.setTrack t c).cuePool = d.cuePool := rfl
@[simp] theorem Device.setTrack_clipPool (d : Device) (t : Slot) (c : TrackContext) : (d.setTrack t c).clipPool = d.clipPool := rfl
@[simp] theorem Device.setTrack_reports (d : Device) (t : Slot) (c : TrackContext) : (d.setTrack t c).reports = d.reports := rfl
@[simp] theorem Device.setTrack_monitor (d : Device) (t : Slot) (c : TrackContext) : (d.setTrack t c).monitor = d.monitor := rfl
@[simp] theorem Device.setTrack_nextArrival (d : Device) (t : Slot) (c : TrackContext) : (d.setTrack t c).nextArrival = d.nextArrival := rfl
@[simp] theorem Device.setTrack_nextTag (d : Device) (t : Slot) (c : TrackContext) : (d.setTrack t c).nextTag = d.nextTag := rfl
@[simp] theorem Device.setTrack_ports (d : Device) (t : Slot) (c : TrackContext) : (d.setTrack t c).ports = d.ports := rfl

/-! ## setText -/

@[simp] theorem Device.setText_resetN (d : Device) (t : Slot) (x : TextTrack) : (d.setText t x).resetN = d.resetN := rfl
@[simp] theorem Device.setText_attn (d : Device) (t : Slot) (x : TextTrack) : (d.setText t x).attn = d.attn := rfl
@[simp] theorem Device.setText_strapLatch (d : Device) (t : Slot) (x : TextTrack) : (d.setText t x).strapLatch = d.strapLatch := rfl
@[simp] theorem Device.setText_windows (d : Device) (t : Slot) (x : TextTrack) : (d.setText t x).windows = d.windows := rfl
@[simp] theorem Device.setText_writeQueue (d : Device) (t : Slot) (x : TextTrack) : (d.setText t x).writeQueue = d.writeQueue := rfl
@[simp] theorem Device.setText_readList (d : Device) (t : Slot) (x : TextTrack) : (d.setText t x).readList = d.readList := rfl
@[simp] theorem Device.setText_presented (d : Device) (t : Slot) (x : TextTrack) : (d.setText t x).presented = d.presented := rfl
@[simp] theorem Device.setText_arbiter (d : Device) (t : Slot) (x : TextTrack) : (d.setText t x).arbiter = d.arbiter := rfl
@[simp] theorem Device.setText_outstanding (d : Device) (t : Slot) (x : TextTrack) : (d.setText t x).outstanding = d.outstanding := rfl
@[simp] theorem Device.setText_engine (d : Device) (t : Slot) (x : TextTrack) : (d.setText t x).engine = d.engine := rfl
@[simp] theorem Device.setText_tracks (d : Device) (t : Slot) (x : TextTrack) : (d.setText t x).tracks = d.tracks.set t.val { d.track t with body := .text x } := rfl
@[simp] theorem Device.setText_cuePool (d : Device) (t : Slot) (x : TextTrack) : (d.setText t x).cuePool = d.cuePool := rfl
@[simp] theorem Device.setText_clipPool (d : Device) (t : Slot) (x : TextTrack) : (d.setText t x).clipPool = d.clipPool := rfl
@[simp] theorem Device.setText_reports (d : Device) (t : Slot) (x : TextTrack) : (d.setText t x).reports = d.reports := rfl
@[simp] theorem Device.setText_monitor (d : Device) (t : Slot) (x : TextTrack) : (d.setText t x).monitor = d.monitor := rfl
@[simp] theorem Device.setText_nextArrival (d : Device) (t : Slot) (x : TextTrack) : (d.setText t x).nextArrival = d.nextArrival := rfl
@[simp] theorem Device.setText_nextTag (d : Device) (t : Slot) (x : TextTrack) : (d.setText t x).nextTag = d.nextTag := rfl
@[simp] theorem Device.setText_ports (d : Device) (t : Slot) (x : TextTrack) : (d.setText t x).ports = d.ports := rfl

/-! ## setClips -/

@[simp] theorem Device.setClips_resetN (d : Device) (t : Slot) (x : ClipTrack) : (d.setClips t x).resetN = d.resetN := rfl
@[simp] theorem Device.setClips_attn (d : Device) (t : Slot) (x : ClipTrack) : (d.setClips t x).attn = d.attn := rfl
@[simp] theorem Device.setClips_strapLatch (d : Device) (t : Slot) (x : ClipTrack) : (d.setClips t x).strapLatch = d.strapLatch := rfl
@[simp] theorem Device.setClips_windows (d : Device) (t : Slot) (x : ClipTrack) : (d.setClips t x).windows = d.windows := rfl
@[simp] theorem Device.setClips_writeQueue (d : Device) (t : Slot) (x : ClipTrack) : (d.setClips t x).writeQueue = d.writeQueue := rfl
@[simp] theorem Device.setClips_readList (d : Device) (t : Slot) (x : ClipTrack) : (d.setClips t x).readList = d.readList := rfl
@[simp] theorem Device.setClips_presented (d : Device) (t : Slot) (x : ClipTrack) : (d.setClips t x).presented = d.presented := rfl
@[simp] theorem Device.setClips_arbiter (d : Device) (t : Slot) (x : ClipTrack) : (d.setClips t x).arbiter = d.arbiter := rfl
@[simp] theorem Device.setClips_outstanding (d : Device) (t : Slot) (x : ClipTrack) : (d.setClips t x).outstanding = d.outstanding := rfl
@[simp] theorem Device.setClips_engine (d : Device) (t : Slot) (x : ClipTrack) : (d.setClips t x).engine = d.engine := rfl
@[simp] theorem Device.setClips_tracks (d : Device) (t : Slot) (x : ClipTrack) : (d.setClips t x).tracks = d.tracks.set t.val { d.track t with body := .description x } := rfl
@[simp] theorem Device.setClips_cuePool (d : Device) (t : Slot) (x : ClipTrack) : (d.setClips t x).cuePool = d.cuePool := rfl
@[simp] theorem Device.setClips_clipPool (d : Device) (t : Slot) (x : ClipTrack) : (d.setClips t x).clipPool = d.clipPool := rfl
@[simp] theorem Device.setClips_reports (d : Device) (t : Slot) (x : ClipTrack) : (d.setClips t x).reports = d.reports := rfl
@[simp] theorem Device.setClips_monitor (d : Device) (t : Slot) (x : ClipTrack) : (d.setClips t x).monitor = d.monitor := rfl
@[simp] theorem Device.setClips_nextArrival (d : Device) (t : Slot) (x : ClipTrack) : (d.setClips t x).nextArrival = d.nextArrival := rfl
@[simp] theorem Device.setClips_nextTag (d : Device) (t : Slot) (x : ClipTrack) : (d.setClips t x).nextTag = d.nextTag := rfl
@[simp] theorem Device.setClips_ports (d : Device) (t : Slot) (x : ClipTrack) : (d.setClips t x).ports = d.ports := rfl

/-! ## setTrackState -/

@[simp] theorem Device.setTrackState_resetN (d : Device) (t : Slot) (st : TrackState) : (d.setTrackState t st).resetN = d.resetN := rfl
@[simp] theorem Device.setTrackState_attn (d : Device) (t : Slot) (st : TrackState) : (d.setTrackState t st).attn = d.attn := rfl
@[simp] theorem Device.setTrackState_strapLatch (d : Device) (t : Slot) (st : TrackState) : (d.setTrackState t st).strapLatch = d.strapLatch := rfl
@[simp] theorem Device.setTrackState_windows (d : Device) (t : Slot) (st : TrackState) : (d.setTrackState t st).windows = d.windows := rfl
@[simp] theorem Device.setTrackState_writeQueue (d : Device) (t : Slot) (st : TrackState) : (d.setTrackState t st).writeQueue = d.writeQueue := rfl
@[simp] theorem Device.setTrackState_readList (d : Device) (t : Slot) (st : TrackState) : (d.setTrackState t st).readList = d.readList := rfl
@[simp] theorem Device.setTrackState_presented (d : Device) (t : Slot) (st : TrackState) : (d.setTrackState t st).presented = d.presented := rfl
@[simp] theorem Device.setTrackState_arbiter (d : Device) (t : Slot) (st : TrackState) : (d.setTrackState t st).arbiter = d.arbiter := rfl
@[simp] theorem Device.setTrackState_outstanding (d : Device) (t : Slot) (st : TrackState) : (d.setTrackState t st).outstanding = d.outstanding := rfl
@[simp] theorem Device.setTrackState_engine (d : Device) (t : Slot) (st : TrackState) : (d.setTrackState t st).engine = d.engine := rfl
@[simp] theorem Device.setTrackState_tracks (d : Device) (t : Slot) (st : TrackState) : (d.setTrackState t st).tracks = d.tracks.set t.val { d.track t with state := st } := rfl
@[simp] theorem Device.setTrackState_cuePool (d : Device) (t : Slot) (st : TrackState) : (d.setTrackState t st).cuePool = d.cuePool := rfl
@[simp] theorem Device.setTrackState_clipPool (d : Device) (t : Slot) (st : TrackState) : (d.setTrackState t st).clipPool = d.clipPool := rfl
@[simp] theorem Device.setTrackState_reports (d : Device) (t : Slot) (st : TrackState) : (d.setTrackState t st).reports = d.reports := rfl
@[simp] theorem Device.setTrackState_monitor (d : Device) (t : Slot) (st : TrackState) : (d.setTrackState t st).monitor = d.monitor := rfl
@[simp] theorem Device.setTrackState_nextArrival (d : Device) (t : Slot) (st : TrackState) : (d.setTrackState t st).nextArrival = d.nextArrival := rfl
@[simp] theorem Device.setTrackState_nextTag (d : Device) (t : Slot) (st : TrackState) : (d.setTrackState t st).nextTag = d.nextTag := rfl
@[simp] theorem Device.setTrackState_ports (d : Device) (t : Slot) (st : TrackState) : (d.setTrackState t st).ports = d.ports := rfl

/-! ## post -/

@[simp] theorem Device.post_resetN (d : Device) (x : Report) : (d.post x).resetN = d.resetN := rfl
@[simp] theorem Device.post_attn (d : Device) (x : Report) : (d.post x).attn = d.attn := rfl
@[simp] theorem Device.post_strapLatch (d : Device) (x : Report) : (d.post x).strapLatch = d.strapLatch := rfl
@[simp] theorem Device.post_windows (d : Device) (x : Report) : (d.post x).windows = d.windows := rfl
@[simp] theorem Device.post_writeQueue (d : Device) (x : Report) : (d.post x).writeQueue = d.writeQueue := rfl
@[simp] theorem Device.post_readList (d : Device) (x : Report) : (d.post x).readList = d.readList := rfl
@[simp] theorem Device.post_presented (d : Device) (x : Report) : (d.post x).presented = d.presented := rfl
@[simp] theorem Device.post_arbiter (d : Device) (x : Report) : (d.post x).arbiter = d.arbiter := rfl
@[simp] theorem Device.post_outstanding (d : Device) (x : Report) : (d.post x).outstanding = d.outstanding := rfl
@[simp] theorem Device.post_engine (d : Device) (x : Report) : (d.post x).engine = d.engine := rfl
@[simp] theorem Device.post_tracks (d : Device) (x : Report) : (d.post x).tracks = d.tracks := rfl
@[simp] theorem Device.post_cuePool (d : Device) (x : Report) : (d.post x).cuePool = d.cuePool := rfl
@[simp] theorem Device.post_clipPool (d : Device) (x : Report) : (d.post x).clipPool = d.clipPool := rfl
@[simp] theorem Device.post_reports (d : Device) (x : Report) : (d.post x).reports = d.reports.posted x := rfl
@[simp] theorem Device.post_monitor (d : Device) (x : Report) : (d.post x).monitor = d.monitor := rfl
@[simp] theorem Device.post_nextArrival (d : Device) (x : Report) : (d.post x).nextArrival = d.nextArrival := rfl
@[simp] theorem Device.post_nextTag (d : Device) (x : Report) : (d.post x).nextTag = d.nextTag := rfl
@[simp] theorem Device.post_ports (d : Device) (x : Report) : (d.post x).ports = d.ports := rfl

/-! ## refuse -/

@[simp] theorem Device.refuse_resetN (d : Device) (x : Directive) (r : RefusalReason) : (d.refuse x r).resetN = d.resetN := rfl
@[simp] theorem Device.refuse_attn (d : Device) (x : Directive) (r : RefusalReason) : (d.refuse x r).attn = d.attn := rfl
@[simp] theorem Device.refuse_strapLatch (d : Device) (x : Directive) (r : RefusalReason) : (d.refuse x r).strapLatch = d.strapLatch := rfl
@[simp] theorem Device.refuse_windows (d : Device) (x : Directive) (r : RefusalReason) : (d.refuse x r).windows = d.windows := rfl
@[simp] theorem Device.refuse_writeQueue (d : Device) (x : Directive) (r : RefusalReason) : (d.refuse x r).writeQueue = d.writeQueue := rfl
@[simp] theorem Device.refuse_readList (d : Device) (x : Directive) (r : RefusalReason) : (d.refuse x r).readList = d.readList := rfl
@[simp] theorem Device.refuse_presented (d : Device) (x : Directive) (r : RefusalReason) : (d.refuse x r).presented = d.presented := rfl
@[simp] theorem Device.refuse_arbiter (d : Device) (x : Directive) (r : RefusalReason) : (d.refuse x r).arbiter = d.arbiter := rfl
@[simp] theorem Device.refuse_outstanding (d : Device) (x : Directive) (r : RefusalReason) : (d.refuse x r).outstanding = d.outstanding := rfl
@[simp] theorem Device.refuse_engine (d : Device) (x : Directive) (r : RefusalReason) : (d.refuse x r).engine = { d.engine with partialWrites := 0 } := rfl
@[simp] theorem Device.refuse_tracks (d : Device) (x : Directive) (r : RefusalReason) : (d.refuse x r).tracks = d.tracks := rfl
@[simp] theorem Device.refuse_cuePool (d : Device) (x : Directive) (r : RefusalReason) : (d.refuse x r).cuePool = d.cuePool := rfl
@[simp] theorem Device.refuse_clipPool (d : Device) (x : Directive) (r : RefusalReason) : (d.refuse x r).clipPool = d.clipPool := rfl
@[simp] theorem Device.refuse_reports (d : Device) (x : Directive) (r : RefusalReason) : (d.refuse x r).reports = d.reports.posted (.directiveRefused x.headerSlot r x d.engine.partialWrites) := rfl
@[simp] theorem Device.refuse_monitor (d : Device) (x : Directive) (r : RefusalReason) : (d.refuse x r).monitor = d.monitor := rfl
@[simp] theorem Device.refuse_nextArrival (d : Device) (x : Directive) (r : RefusalReason) : (d.refuse x r).nextArrival = d.nextArrival := rfl
@[simp] theorem Device.refuse_nextTag (d : Device) (x : Directive) (r : RefusalReason) : (d.refuse x r).nextTag = d.nextTag := rfl
@[simp] theorem Device.refuse_ports (d : Device) (x : Directive) (r : RefusalReason) : (d.refuse x r).ports = d.ports := rfl

/-! ## install -/

@[simp] theorem Device.install_resetN (d : Device) (i : EntryNo) (w : Window) : (d.install i w).resetN = d.resetN := rfl
@[simp] theorem Device.install_attn (d : Device) (i : EntryNo) (w : Window) : (d.install i w).attn = d.attn := rfl
@[simp] theorem Device.install_strapLatch (d : Device) (i : EntryNo) (w : Window) : (d.install i w).strapLatch = d.strapLatch := rfl
@[simp] theorem Device.install_windows (d : Device) (i : EntryNo) (w : Window) : (d.install i w).windows = d.windows.set i.val (some ⟨w, true⟩) := rfl
@[simp] theorem Device.install_writeQueue (d : Device) (i : EntryNo) (w : Window) : (d.install i w).writeQueue = d.writeQueue := rfl
@[simp] theorem Device.install_readList (d : Device) (i : EntryNo) (w : Window) : (d.install i w).readList = d.readList := rfl
@[simp] theorem Device.install_presented (d : Device) (i : EntryNo) (w : Window) : (d.install i w).presented = d.presented := rfl
@[simp] theorem Device.install_arbiter (d : Device) (i : EntryNo) (w : Window) : (d.install i w).arbiter = d.arbiter := rfl
@[simp] theorem Device.install_outstanding (d : Device) (i : EntryNo) (w : Window) : (d.install i w).outstanding = d.outstanding := rfl
@[simp] theorem Device.install_engine (d : Device) (i : EntryNo) (w : Window) : (d.install i w).engine = d.engine := rfl
@[simp] theorem Device.install_tracks (d : Device) (i : EntryNo) (w : Window) : (d.install i w).tracks = d.tracks := rfl
@[simp] theorem Device.install_cuePool (d : Device) (i : EntryNo) (w : Window) : (d.install i w).cuePool = d.cuePool := rfl
@[simp] theorem Device.install_clipPool (d : Device) (i : EntryNo) (w : Window) : (d.install i w).clipPool = d.clipPool := rfl
@[simp] theorem Device.install_reports (d : Device) (i : EntryNo) (w : Window) : (d.install i w).reports = d.reports := rfl
@[simp] theorem Device.install_monitor (d : Device) (i : EntryNo) (w : Window) : (d.install i w).monitor = d.monitor := rfl
@[simp] theorem Device.install_nextArrival (d : Device) (i : EntryNo) (w : Window) : (d.install i w).nextArrival = d.nextArrival := rfl
@[simp] theorem Device.install_nextTag (d : Device) (i : EntryNo) (w : Window) : (d.install i w).nextTag = d.nextTag := rfl
@[simp] theorem Device.install_ports (d : Device) (i : EntryNo) (w : Window) : (d.install i w).ports = d.ports := rfl

/-! ## unmatch -/

@[simp] theorem Device.unmatch_resetN (d : Device) (p : EntryNo → Bool) : (d.unmatch p).resetN = d.resetN := rfl
@[simp] theorem Device.unmatch_attn (d : Device) (p : EntryNo → Bool) : (d.unmatch p).attn = d.attn := rfl
@[simp] theorem Device.unmatch_strapLatch (d : Device) (p : EntryNo → Bool) : (d.unmatch p).strapLatch = d.strapLatch := rfl
@[simp] theorem Device.unmatch_windows (d : Device) (p : EntryNo → Bool) : (d.unmatch p).windows = d.windows := rfl
@[simp] theorem Device.unmatch_presented (d : Device) (p : EntryNo → Bool) : (d.unmatch p).presented = d.presented := rfl
@[simp] theorem Device.unmatch_arbiter (d : Device) (p : EntryNo → Bool) : (d.unmatch p).arbiter = d.arbiter := rfl
@[simp] theorem Device.unmatch_outstanding (d : Device) (p : EntryNo → Bool) : (d.unmatch p).outstanding = d.outstanding.map (Outstanding.unmatched p) := rfl
@[simp] theorem Device.unmatch_engine (d : Device) (p : EntryNo → Bool) : (d.unmatch p).engine = d.engine := rfl
@[simp] theorem Device.unmatch_tracks (d : Device) (p : EntryNo → Bool) : (d.unmatch p).tracks = d.tracks := rfl
@[simp] theorem Device.unmatch_cuePool (d : Device) (p : EntryNo → Bool) : (d.unmatch p).cuePool = d.cuePool := rfl
@[simp] theorem Device.unmatch_clipPool (d : Device) (p : EntryNo → Bool) : (d.unmatch p).clipPool = d.clipPool := rfl
@[simp] theorem Device.unmatch_reports (d : Device) (p : EntryNo → Bool) : (d.unmatch p).reports = d.reports := rfl
@[simp] theorem Device.unmatch_monitor (d : Device) (p : EntryNo → Bool) : (d.unmatch p).monitor = d.monitor := rfl
@[simp] theorem Device.unmatch_nextArrival (d : Device) (p : EntryNo → Bool) : (d.unmatch p).nextArrival = d.nextArrival := rfl
@[simp] theorem Device.unmatch_nextTag (d : Device) (p : EntryNo → Bool) : (d.unmatch p).nextTag = d.nextTag := rfl
@[simp] theorem Device.unmatch_ports (d : Device) (p : EntryNo → Bool) : (d.unmatch p).ports = d.ports := rfl

/-! ## removeWindows -/

@[simp] theorem Device.removeWindows_resetN (d : Device) (p : EntryNo → Bool) : (d.removeWindows p).resetN = d.resetN := rfl
@[simp] theorem Device.removeWindows_attn (d : Device) (p : EntryNo → Bool) : (d.removeWindows p).attn = d.attn := rfl
@[simp] theorem Device.removeWindows_strapLatch (d : Device) (p : EntryNo → Bool) : (d.removeWindows p).strapLatch = d.strapLatch := rfl
@[simp] theorem Device.removeWindows_writeQueue (d : Device) (p : EntryNo → Bool) : (d.removeWindows p).writeQueue = (d.unmatch p).writeQueue := rfl
@[simp] theorem Device.removeWindows_readList (d : Device) (p : EntryNo → Bool) : (d.removeWindows p).readList = (d.unmatch p).readList := rfl
@[simp] theorem Device.removeWindows_presented (d : Device) (p : EntryNo → Bool) : (d.removeWindows p).presented = d.presented := rfl
@[simp] theorem Device.removeWindows_arbiter (d : Device) (p : EntryNo → Bool) : (d.removeWindows p).arbiter = d.arbiter := rfl
@[simp] theorem Device.removeWindows_outstanding (d : Device) (p : EntryNo → Bool) : (d.removeWindows p).outstanding = (d.unmatch p).outstanding := rfl
@[simp] theorem Device.removeWindows_engine (d : Device) (p : EntryNo → Bool) : (d.removeWindows p).engine = d.engine := rfl
@[simp] theorem Device.removeWindows_tracks (d : Device) (p : EntryNo → Bool) : (d.removeWindows p).tracks = d.tracks := rfl
@[simp] theorem Device.removeWindows_cuePool (d : Device) (p : EntryNo → Bool) : (d.removeWindows p).cuePool = d.cuePool := rfl
@[simp] theorem Device.removeWindows_clipPool (d : Device) (p : EntryNo → Bool) : (d.removeWindows p).clipPool = d.clipPool := rfl
@[simp] theorem Device.removeWindows_reports (d : Device) (p : EntryNo → Bool) : (d.removeWindows p).reports = d.reports := rfl
@[simp] theorem Device.removeWindows_monitor (d : Device) (p : EntryNo → Bool) : (d.removeWindows p).monitor = d.monitor := rfl
@[simp] theorem Device.removeWindows_nextArrival (d : Device) (p : EntryNo → Bool) : (d.removeWindows p).nextArrival = d.nextArrival := rfl
@[simp] theorem Device.removeWindows_nextTag (d : Device) (p : EntryNo → Bool) : (d.removeWindows p).nextTag = d.nextTag := rfl
@[simp] theorem Device.removeWindows_ports (d : Device) (p : EntryNo → Bool) : (d.removeWindows p).ports = d.ports := rfl

/-! ## freeTrack -/

@[simp] theorem Device.freeTrack_resetN (d : Device) (t : Slot) : (d.freeTrack t).resetN = d.resetN := rfl
@[simp] theorem Device.freeTrack_attn (d : Device) (t : Slot) : (d.freeTrack t).attn = d.attn := rfl
@[simp] theorem Device.freeTrack_strapLatch (d : Device) (t : Slot) : (d.freeTrack t).strapLatch = d.strapLatch := rfl
@[simp] theorem Device.freeTrack_presented (d : Device) (t : Slot) : (d.freeTrack t).presented = d.presented := rfl
@[simp] theorem Device.freeTrack_arbiter (d : Device) (t : Slot) : (d.freeTrack t).arbiter = d.arbiter := rfl
@[simp] theorem Device.freeTrack_engine (d : Device) (t : Slot) : (d.freeTrack t).engine = d.engine := rfl
@[simp] theorem Device.freeTrack_tracks (d : Device) (t : Slot) : (d.freeTrack t).tracks = d.tracks.set t.val TrackContext.freeContext := rfl
@[simp] theorem Device.freeTrack_cuePool (d : Device) (t : Slot) : (d.freeTrack t).cuePool = freeCues t d.cuePool := rfl
@[simp] theorem Device.freeTrack_clipPool (d : Device) (t : Slot) : (d.freeTrack t).clipPool = freeClips t d.clipPool := rfl
@[simp] theorem Device.freeTrack_reports (d : Device) (t : Slot) : (d.freeTrack t).reports = d.reports := rfl
@[simp] theorem Device.freeTrack_monitor (d : Device) (t : Slot) : (d.freeTrack t).monitor = d.monitor := rfl
@[simp] theorem Device.freeTrack_nextArrival (d : Device) (t : Slot) : (d.freeTrack t).nextArrival = d.nextArrival := rfl
@[simp] theorem Device.freeTrack_nextTag (d : Device) (t : Slot) : (d.freeTrack t).nextTag = d.nextTag := rfl
@[simp] theorem Device.freeTrack_ports (d : Device) (t : Slot) : (d.freeTrack t).ports = d.ports := rfl

/-! ## answerHead -/

@[simp] theorem Device.answerHead_resetN (d : Device) (bs : List Beat) : (d.answerHead bs).resetN = d.resetN := rfl
@[simp] theorem Device.answerHead_attn (d : Device) (bs : List Beat) : (d.answerHead bs).attn = d.attn := rfl
@[simp] theorem Device.answerHead_strapLatch (d : Device) (bs : List Beat) : (d.answerHead bs).strapLatch = d.strapLatch := rfl
@[simp] theorem Device.answerHead_windows (d : Device) (bs : List Beat) : (d.answerHead bs).windows = d.windows := rfl
@[simp] theorem Device.answerHead_readList (d : Device) (bs : List Beat) : (d.answerHead bs).readList = d.readList := rfl
@[simp] theorem Device.answerHead_presented (d : Device) (bs : List Beat) : (d.answerHead bs).presented = d.presented := rfl
@[simp] theorem Device.answerHead_arbiter (d : Device) (bs : List Beat) : (d.answerHead bs).arbiter = d.arbiter := rfl
@[simp] theorem Device.answerHead_outstanding (d : Device) (bs : List Beat) : (d.answerHead bs).outstanding = d.outstanding := rfl
@[simp] theorem Device.answerHead_engine (d : Device) (bs : List Beat) : (d.answerHead bs).engine = d.engine := rfl
@[simp] theorem Device.answerHead_tracks (d : Device) (bs : List Beat) : (d.answerHead bs).tracks = d.tracks := rfl
@[simp] theorem Device.answerHead_cuePool (d : Device) (bs : List Beat) : (d.answerHead bs).cuePool = d.cuePool := rfl
@[simp] theorem Device.answerHead_clipPool (d : Device) (bs : List Beat) : (d.answerHead bs).clipPool = d.clipPool := rfl
@[simp] theorem Device.answerHead_reports (d : Device) (bs : List Beat) : (d.answerHead bs).reports = d.reports := rfl
@[simp] theorem Device.answerHead_monitor (d : Device) (bs : List Beat) : (d.answerHead bs).monitor = d.monitor := rfl
@[simp] theorem Device.answerHead_nextArrival (d : Device) (bs : List Beat) : (d.answerHead bs).nextArrival = d.nextArrival := rfl
@[simp] theorem Device.answerHead_nextTag (d : Device) (bs : List Beat) : (d.answerHead bs).nextTag = d.nextTag := rfl
@[simp] theorem Device.answerHead_ports (d : Device) (bs : List Beat) : (d.answerHead bs).ports = d.ports := rfl

/-! ## holdHead -/

@[simp] theorem Device.holdHead_resetN (d : Device) : d.holdHead.resetN = d.resetN := rfl
@[simp] theorem Device.holdHead_attn (d : Device) : d.holdHead.attn = d.attn := rfl
@[simp] theorem Device.holdHead_strapLatch (d : Device) : d.holdHead.strapLatch = d.strapLatch := rfl
@[simp] theorem Device.holdHead_windows (d : Device) : d.holdHead.windows = d.windows := rfl
@[simp] theorem Device.holdHead_readList (d : Device) : d.holdHead.readList = d.readList := rfl
@[simp] theorem Device.holdHead_presented (d : Device) : d.holdHead.presented = d.presented := rfl
@[simp] theorem Device.holdHead_arbiter (d : Device) : d.holdHead.arbiter = d.arbiter := rfl
@[simp] theorem Device.holdHead_outstanding (d : Device) : d.holdHead.outstanding = d.outstanding := rfl
@[simp] theorem Device.holdHead_engine (d : Device) : d.holdHead.engine = d.engine := rfl
@[simp] theorem Device.holdHead_tracks (d : Device) : d.holdHead.tracks = d.tracks := rfl
@[simp] theorem Device.holdHead_cuePool (d : Device) : d.holdHead.cuePool = d.cuePool := rfl
@[simp] theorem Device.holdHead_clipPool (d : Device) : d.holdHead.clipPool = d.clipPool := rfl
@[simp] theorem Device.holdHead_reports (d : Device) : d.holdHead.reports = d.reports := rfl
@[simp] theorem Device.holdHead_monitor (d : Device) : d.holdHead.monitor = d.monitor := rfl
@[simp] theorem Device.holdHead_nextArrival (d : Device) : d.holdHead.nextArrival = d.nextArrival := rfl
@[simp] theorem Device.holdHead_nextTag (d : Device) : d.holdHead.nextTag = d.nextTag := rfl
@[simp] theorem Device.holdHead_ports (d : Device) : d.holdHead.ports = d.ports := rfl

/-! ## issueRead -/

@[simp] theorem Device.issueRead_resetN (d : Device) (q : Requester) (p : Purpose) (a : Addr) (n : Nat) : (d.issueRead q p a n).resetN = d.resetN := rfl
@[simp] theorem Device.issueRead_attn (d : Device) (q : Requester) (p : Purpose) (a : Addr) (n : Nat) : (d.issueRead q p a n).attn = d.attn := rfl
@[simp] theorem Device.issueRead_strapLatch (d : Device) (q : Requester) (p : Purpose) (a : Addr) (n : Nat) : (d.issueRead q p a n).strapLatch = d.strapLatch := rfl
@[simp] theorem Device.issueRead_windows (d : Device) (q : Requester) (p : Purpose) (a : Addr) (n : Nat) : (d.issueRead q p a n).windows = d.windows := rfl
@[simp] theorem Device.issueRead_writeQueue (d : Device) (q : Requester) (p : Purpose) (a : Addr) (n : Nat) : (d.issueRead q p a n).writeQueue = d.writeQueue := rfl
@[simp] theorem Device.issueRead_readList (d : Device) (q : Requester) (p : Purpose) (a : Addr) (n : Nat) : (d.issueRead q p a n).readList = d.readList := rfl
@[simp] theorem Device.issueRead_presented (d : Device) (q : Requester) (p : Purpose) (a : Addr) (n : Nat) : (d.issueRead q p a n).presented = d.presented := rfl
@[simp] theorem Device.issueRead_arbiter (d : Device) (q : Requester) (p : Purpose) (a : Addr) (n : Nat) : (d.issueRead q p a n).arbiter = d.arbiter := rfl
@[simp] theorem Device.issueRead_outstanding (d : Device) (q : Requester) (p : Purpose) (a : Addr) (n : Nat) : (d.issueRead q p a n).outstanding = d.outstanding ++ [⟨d.nextTag, p, a, n⟩] := rfl
@[simp] theorem Device.issueRead_engine (d : Device) (q : Requester) (p : Purpose) (a : Addr) (n : Nat) : (d.issueRead q p a n).engine = d.engine := rfl
@[simp] theorem Device.issueRead_tracks (d : Device) (q : Requester) (p : Purpose) (a : Addr) (n : Nat) : (d.issueRead q p a n).tracks = d.tracks := rfl
@[simp] theorem Device.issueRead_cuePool (d : Device) (q : Requester) (p : Purpose) (a : Addr) (n : Nat) : (d.issueRead q p a n).cuePool = d.cuePool := rfl
@[simp] theorem Device.issueRead_clipPool (d : Device) (q : Requester) (p : Purpose) (a : Addr) (n : Nat) : (d.issueRead q p a n).clipPool = d.clipPool := rfl
@[simp] theorem Device.issueRead_reports (d : Device) (q : Requester) (p : Purpose) (a : Addr) (n : Nat) : (d.issueRead q p a n).reports = d.reports := rfl
@[simp] theorem Device.issueRead_monitor (d : Device) (q : Requester) (p : Purpose) (a : Addr) (n : Nat) : (d.issueRead q p a n).monitor = d.monitor := rfl
@[simp] theorem Device.issueRead_nextArrival (d : Device) (q : Requester) (p : Purpose) (a : Addr) (n : Nat) : (d.issueRead q p a n).nextArrival = d.nextArrival := rfl
@[simp] theorem Device.issueRead_nextTag (d : Device) (q : Requester) (p : Purpose) (a : Addr) (n : Nat) : (d.issueRead q p a n).nextTag = d.nextTag + 1 := rfl
@[simp] theorem Device.issueRead_ports (d : Device) (q : Requester) (p : Purpose) (a : Addr) (n : Nat) : (d.issueRead q p a n).ports = d.ports ++ [.issueRead d.nextTag q a n] := rfl

/-! ## issueWrite -/

@[simp] theorem Device.issueWrite_resetN (d : Device) (q : Requester) (p : Purpose) (a : Addr) (bs : List Beat) : (d.issueWrite q p a bs).resetN = d.resetN := rfl
@[simp] theorem Device.issueWrite_attn (d : Device) (q : Requester) (p : Purpose) (a : Addr) (bs : List Beat) : (d.issueWrite q p a bs).attn = d.attn := rfl
@[simp] theorem Device.issueWrite_strapLatch (d : Device) (q : Requester) (p : Purpose) (a : Addr) (bs : List Beat) : (d.issueWrite q p a bs).strapLatch = d.strapLatch := rfl
@[simp] theorem Device.issueWrite_windows (d : Device) (q : Requester) (p : Purpose) (a : Addr) (bs : List Beat) : (d.issueWrite q p a bs).windows = d.windows := rfl
@[simp] theorem Device.issueWrite_writeQueue (d : Device) (q : Requester) (p : Purpose) (a : Addr) (bs : List Beat) : (d.issueWrite q p a bs).writeQueue = d.writeQueue := rfl
@[simp] theorem Device.issueWrite_readList (d : Device) (q : Requester) (p : Purpose) (a : Addr) (bs : List Beat) : (d.issueWrite q p a bs).readList = d.readList := rfl
@[simp] theorem Device.issueWrite_presented (d : Device) (q : Requester) (p : Purpose) (a : Addr) (bs : List Beat) : (d.issueWrite q p a bs).presented = d.presented := rfl
@[simp] theorem Device.issueWrite_arbiter (d : Device) (q : Requester) (p : Purpose) (a : Addr) (bs : List Beat) : (d.issueWrite q p a bs).arbiter = d.arbiter := rfl
@[simp] theorem Device.issueWrite_outstanding (d : Device) (q : Requester) (p : Purpose) (a : Addr) (bs : List Beat) : (d.issueWrite q p a bs).outstanding = d.outstanding ++ [⟨d.nextTag, p, a, bs.length⟩] := rfl
@[simp] theorem Device.issueWrite_engine (d : Device) (q : Requester) (p : Purpose) (a : Addr) (bs : List Beat) : (d.issueWrite q p a bs).engine = d.engine := rfl
@[simp] theorem Device.issueWrite_tracks (d : Device) (q : Requester) (p : Purpose) (a : Addr) (bs : List Beat) : (d.issueWrite q p a bs).tracks = d.tracks := rfl
@[simp] theorem Device.issueWrite_cuePool (d : Device) (q : Requester) (p : Purpose) (a : Addr) (bs : List Beat) : (d.issueWrite q p a bs).cuePool = d.cuePool := rfl
@[simp] theorem Device.issueWrite_clipPool (d : Device) (q : Requester) (p : Purpose) (a : Addr) (bs : List Beat) : (d.issueWrite q p a bs).clipPool = d.clipPool := rfl
@[simp] theorem Device.issueWrite_reports (d : Device) (q : Requester) (p : Purpose) (a : Addr) (bs : List Beat) : (d.issueWrite q p a bs).reports = d.reports := rfl
@[simp] theorem Device.issueWrite_monitor (d : Device) (q : Requester) (p : Purpose) (a : Addr) (bs : List Beat) : (d.issueWrite q p a bs).monitor = d.monitor := rfl
@[simp] theorem Device.issueWrite_nextArrival (d : Device) (q : Requester) (p : Purpose) (a : Addr) (bs : List Beat) : (d.issueWrite q p a bs).nextArrival = d.nextArrival := rfl
@[simp] theorem Device.issueWrite_nextTag (d : Device) (q : Requester) (p : Purpose) (a : Addr) (bs : List Beat) : (d.issueWrite q p a bs).nextTag = d.nextTag + 1 := rfl
@[simp] theorem Device.issueWrite_ports (d : Device) (q : Requester) (p : Purpose) (a : Addr) (bs : List Beat) : (d.issueWrite q p a bs).ports = d.ports ++ [.issueWrite d.nextTag q a bs] := rfl

/-! ## show -/

@[simp] theorem Device.show_resetN (d : Device) (e : PortEvent) : (d.show e).resetN = d.resetN := rfl
@[simp] theorem Device.show_attn (d : Device) (e : PortEvent) : (d.show e).attn = d.attn := rfl
@[simp] theorem Device.show_strapLatch (d : Device) (e : PortEvent) : (d.show e).strapLatch = d.strapLatch := rfl
@[simp] theorem Device.show_windows (d : Device) (e : PortEvent) : (d.show e).windows = d.windows := rfl
@[simp] theorem Device.show_writeQueue (d : Device) (e : PortEvent) : (d.show e).writeQueue = d.writeQueue := rfl
@[simp] theorem Device.show_readList (d : Device) (e : PortEvent) : (d.show e).readList = d.readList := rfl
@[simp] theorem Device.show_presented (d : Device) (e : PortEvent) : (d.show e).presented = d.presented := rfl
@[simp] theorem Device.show_arbiter (d : Device) (e : PortEvent) : (d.show e).arbiter = d.arbiter := rfl
@[simp] theorem Device.show_outstanding (d : Device) (e : PortEvent) : (d.show e).outstanding = d.outstanding := rfl
@[simp] theorem Device.show_engine (d : Device) (e : PortEvent) : (d.show e).engine = d.engine := rfl
@[simp] theorem Device.show_tracks (d : Device) (e : PortEvent) : (d.show e).tracks = d.tracks := rfl
@[simp] theorem Device.show_cuePool (d : Device) (e : PortEvent) : (d.show e).cuePool = d.cuePool := rfl
@[simp] theorem Device.show_clipPool (d : Device) (e : PortEvent) : (d.show e).clipPool = d.clipPool := rfl
@[simp] theorem Device.show_reports (d : Device) (e : PortEvent) : (d.show e).reports = d.reports := rfl
@[simp] theorem Device.show_monitor (d : Device) (e : PortEvent) : (d.show e).monitor = d.monitor := rfl
@[simp] theorem Device.show_nextArrival (d : Device) (e : PortEvent) : (d.show e).nextArrival = d.nextArrival := rfl
@[simp] theorem Device.show_nextTag (d : Device) (e : PortEvent) : (d.show e).nextTag = d.nextTag := rfl
@[simp] theorem Device.show_ports (d : Device) (e : PortEvent) : (d.show e).ports = d.ports ++ [e] := rfl

/-! ## answered -/

@[simp] theorem Device.answered_resetN (d : Device) (tag : Nat) : (d.answered tag).resetN = d.resetN := rfl
@[simp] theorem Device.answered_attn (d : Device) (tag : Nat) : (d.answered tag).attn = d.attn := rfl
@[simp] theorem Device.answered_strapLatch (d : Device) (tag : Nat) : (d.answered tag).strapLatch = d.strapLatch := rfl
@[simp] theorem Device.answered_windows (d : Device) (tag : Nat) : (d.answered tag).windows = d.windows := rfl
@[simp] theorem Device.answered_writeQueue (d : Device) (tag : Nat) : (d.answered tag).writeQueue = d.writeQueue := rfl
@[simp] theorem Device.answered_readList (d : Device) (tag : Nat) : (d.answered tag).readList = d.readList := rfl
@[simp] theorem Device.answered_presented (d : Device) (tag : Nat) : (d.answered tag).presented = d.presented := rfl
@[simp] theorem Device.answered_arbiter (d : Device) (tag : Nat) : (d.answered tag).arbiter = d.arbiter := rfl
@[simp] theorem Device.answered_outstanding (d : Device) (tag : Nat) : (d.answered tag).outstanding = d.outstanding.filter fun o => o.tag != tag := rfl
@[simp] theorem Device.answered_engine (d : Device) (tag : Nat) : (d.answered tag).engine = d.engine := rfl
@[simp] theorem Device.answered_tracks (d : Device) (tag : Nat) : (d.answered tag).tracks = d.tracks := rfl
@[simp] theorem Device.answered_cuePool (d : Device) (tag : Nat) : (d.answered tag).cuePool = d.cuePool := rfl
@[simp] theorem Device.answered_clipPool (d : Device) (tag : Nat) : (d.answered tag).clipPool = d.clipPool := rfl
@[simp] theorem Device.answered_reports (d : Device) (tag : Nat) : (d.answered tag).reports = d.reports := rfl
@[simp] theorem Device.answered_monitor (d : Device) (tag : Nat) : (d.answered tag).monitor = d.monitor := rfl
@[simp] theorem Device.answered_nextArrival (d : Device) (tag : Nat) : (d.answered tag).nextArrival = d.nextArrival := rfl
@[simp] theorem Device.answered_nextTag (d : Device) (tag : Nat) : (d.answered tag).nextTag = d.nextTag := rfl
@[simp] theorem Device.answered_ports (d : Device) (tag : Nat) : (d.answered tag).ports = d.ports := rfl

/-! ## joinQueue -/

@[simp] theorem Device.joinQueue_resetN (d : Device) (id : Nat) (a : Addr) (bs : List Beat) (m : Option WindowMatch) : (d.joinQueue id a bs m).resetN = d.resetN := rfl
@[simp] theorem Device.joinQueue_attn (d : Device) (id : Nat) (a : Addr) (bs : List Beat) (m : Option WindowMatch) : (d.joinQueue id a bs m).attn = d.attn := rfl
@[simp] theorem Device.joinQueue_strapLatch (d : Device) (id : Nat) (a : Addr) (bs : List Beat) (m : Option WindowMatch) : (d.joinQueue id a bs m).strapLatch = d.strapLatch := rfl
@[simp] theorem Device.joinQueue_windows (d : Device) (id : Nat) (a : Addr) (bs : List Beat) (m : Option WindowMatch) : (d.joinQueue id a bs m).windows = d.windows := rfl
@[simp] theorem Device.joinQueue_writeQueue (d : Device) (id : Nat) (a : Addr) (bs : List Beat) (m : Option WindowMatch) : (d.joinQueue id a bs m).writeQueue = d.writeQueue ++ [⟨id, a, bs, bs, m, d.nextArrival, .waiting⟩] := rfl
@[simp] theorem Device.joinQueue_readList (d : Device) (id : Nat) (a : Addr) (bs : List Beat) (m : Option WindowMatch) : (d.joinQueue id a bs m).readList = d.readList := rfl
@[simp] theorem Device.joinQueue_presented (d : Device) (id : Nat) (a : Addr) (bs : List Beat) (m : Option WindowMatch) : (d.joinQueue id a bs m).presented = d.presented := rfl
@[simp] theorem Device.joinQueue_arbiter (d : Device) (id : Nat) (a : Addr) (bs : List Beat) (m : Option WindowMatch) : (d.joinQueue id a bs m).arbiter = d.arbiter := rfl
@[simp] theorem Device.joinQueue_outstanding (d : Device) (id : Nat) (a : Addr) (bs : List Beat) (m : Option WindowMatch) : (d.joinQueue id a bs m).outstanding = d.outstanding := rfl
@[simp] theorem Device.joinQueue_engine (d : Device) (id : Nat) (a : Addr) (bs : List Beat) (m : Option WindowMatch) : (d.joinQueue id a bs m).engine = d.engine := rfl
@[simp] theorem Device.joinQueue_tracks (d : Device) (id : Nat) (a : Addr) (bs : List Beat) (m : Option WindowMatch) : (d.joinQueue id a bs m).tracks = d.tracks := rfl
@[simp] theorem Device.joinQueue_cuePool (d : Device) (id : Nat) (a : Addr) (bs : List Beat) (m : Option WindowMatch) : (d.joinQueue id a bs m).cuePool = d.cuePool := rfl
@[simp] theorem Device.joinQueue_clipPool (d : Device) (id : Nat) (a : Addr) (bs : List Beat) (m : Option WindowMatch) : (d.joinQueue id a bs m).clipPool = d.clipPool := rfl
@[simp] theorem Device.joinQueue_reports (d : Device) (id : Nat) (a : Addr) (bs : List Beat) (m : Option WindowMatch) : (d.joinQueue id a bs m).reports = d.reports := rfl
@[simp] theorem Device.joinQueue_monitor (d : Device) (id : Nat) (a : Addr) (bs : List Beat) (m : Option WindowMatch) : (d.joinQueue id a bs m).monitor = d.monitor := rfl
@[simp] theorem Device.joinQueue_nextArrival (d : Device) (id : Nat) (a : Addr) (bs : List Beat) (m : Option WindowMatch) : (d.joinQueue id a bs m).nextArrival = d.nextArrival + 1 := rfl
@[simp] theorem Device.joinQueue_nextTag (d : Device) (id : Nat) (a : Addr) (bs : List Beat) (m : Option WindowMatch) : (d.joinQueue id a bs m).nextTag = d.nextTag := rfl
@[simp] theorem Device.joinQueue_ports (d : Device) (id : Nat) (a : Addr) (bs : List Beat) (m : Option WindowMatch) : (d.joinQueue id a bs m).ports = d.ports := rfl

/-! ## joinReads -/

@[simp] theorem Device.joinReads_resetN (d : Device) (id : Nat) (a : Addr) (n : Nat) (m : Option WindowMatch) : (d.joinReads id a n m).resetN = d.resetN := rfl
@[simp] theorem Device.joinReads_attn (d : Device) (id : Nat) (a : Addr) (n : Nat) (m : Option WindowMatch) : (d.joinReads id a n m).attn = d.attn := rfl
@[simp] theorem Device.joinReads_strapLatch (d : Device) (id : Nat) (a : Addr) (n : Nat) (m : Option WindowMatch) : (d.joinReads id a n m).strapLatch = d.strapLatch := rfl
@[simp] theorem Device.joinReads_windows (d : Device) (id : Nat) (a : Addr) (n : Nat) (m : Option WindowMatch) : (d.joinReads id a n m).windows = d.windows := rfl
@[simp] theorem Device.joinReads_writeQueue (d : Device) (id : Nat) (a : Addr) (n : Nat) (m : Option WindowMatch) : (d.joinReads id a n m).writeQueue = d.writeQueue := rfl
@[simp] theorem Device.joinReads_readList (d : Device) (id : Nat) (a : Addr) (n : Nat) (m : Option WindowMatch) : (d.joinReads id a n m).readList = d.readList ++ [⟨id, a, n, m, d.nextArrival⟩] := rfl
@[simp] theorem Device.joinReads_presented (d : Device) (id : Nat) (a : Addr) (n : Nat) (m : Option WindowMatch) : (d.joinReads id a n m).presented = d.presented := rfl
@[simp] theorem Device.joinReads_arbiter (d : Device) (id : Nat) (a : Addr) (n : Nat) (m : Option WindowMatch) : (d.joinReads id a n m).arbiter = d.arbiter := rfl
@[simp] theorem Device.joinReads_outstanding (d : Device) (id : Nat) (a : Addr) (n : Nat) (m : Option WindowMatch) : (d.joinReads id a n m).outstanding = d.outstanding := rfl
@[simp] theorem Device.joinReads_engine (d : Device) (id : Nat) (a : Addr) (n : Nat) (m : Option WindowMatch) : (d.joinReads id a n m).engine = d.engine := rfl
@[simp] theorem Device.joinReads_tracks (d : Device) (id : Nat) (a : Addr) (n : Nat) (m : Option WindowMatch) : (d.joinReads id a n m).tracks = d.tracks := rfl
@[simp] theorem Device.joinReads_cuePool (d : Device) (id : Nat) (a : Addr) (n : Nat) (m : Option WindowMatch) : (d.joinReads id a n m).cuePool = d.cuePool := rfl
@[simp] theorem Device.joinReads_clipPool (d : Device) (id : Nat) (a : Addr) (n : Nat) (m : Option WindowMatch) : (d.joinReads id a n m).clipPool = d.clipPool := rfl
@[simp] theorem Device.joinReads_reports (d : Device) (id : Nat) (a : Addr) (n : Nat) (m : Option WindowMatch) : (d.joinReads id a n m).reports = d.reports := rfl
@[simp] theorem Device.joinReads_monitor (d : Device) (id : Nat) (a : Addr) (n : Nat) (m : Option WindowMatch) : (d.joinReads id a n m).monitor = d.monitor := rfl
@[simp] theorem Device.joinReads_nextArrival (d : Device) (id : Nat) (a : Addr) (n : Nat) (m : Option WindowMatch) : (d.joinReads id a n m).nextArrival = d.nextArrival + 1 := rfl
@[simp] theorem Device.joinReads_nextTag (d : Device) (id : Nat) (a : Addr) (n : Nat) (m : Option WindowMatch) : (d.joinReads id a n m).nextTag = d.nextTag := rfl
@[simp] theorem Device.joinReads_ports (d : Device) (id : Nat) (a : Addr) (n : Nat) (m : Option WindowMatch) : (d.joinReads id a n m).ports = d.ports := rfl

/-! ## dequeued -/

@[simp] theorem Device.dequeued_resetN (d : Device) : d.dequeued.resetN = d.resetN := rfl
@[simp] theorem Device.dequeued_attn (d : Device) : d.dequeued.attn = d.attn := rfl
@[simp] theorem Device.dequeued_strapLatch (d : Device) : d.dequeued.strapLatch = d.strapLatch := rfl
@[simp] theorem Device.dequeued_windows (d : Device) : d.dequeued.windows = d.windows := rfl
@[simp] theorem Device.dequeued_writeQueue (d : Device) : d.dequeued.writeQueue = d.writeQueue := rfl
@[simp] theorem Device.dequeued_readList (d : Device) : d.dequeued.readList = d.readList := rfl
@[simp] theorem Device.dequeued_presented (d : Device) : d.dequeued.presented = d.presented := rfl
@[simp] theorem Device.dequeued_arbiter (d : Device) : d.dequeued.arbiter = d.arbiter := rfl
@[simp] theorem Device.dequeued_outstanding (d : Device) : d.dequeued.outstanding = d.outstanding := rfl
@[simp] theorem Device.dequeued_engine (d : Device) : d.dequeued.engine = { d.engine with queue := d.engine.queue.tail } := rfl
@[simp] theorem Device.dequeued_tracks (d : Device) : d.dequeued.tracks = d.tracks := rfl
@[simp] theorem Device.dequeued_cuePool (d : Device) : d.dequeued.cuePool = d.cuePool := rfl
@[simp] theorem Device.dequeued_clipPool (d : Device) : d.dequeued.clipPool = d.clipPool := rfl
@[simp] theorem Device.dequeued_reports (d : Device) : d.dequeued.reports = d.reports := rfl
@[simp] theorem Device.dequeued_monitor (d : Device) : d.dequeued.monitor = d.monitor := rfl
@[simp] theorem Device.dequeued_nextArrival (d : Device) : d.dequeued.nextArrival = d.nextArrival := rfl
@[simp] theorem Device.dequeued_nextTag (d : Device) : d.dequeued.nextTag = d.nextTag := rfl
@[simp] theorem Device.dequeued_ports (d : Device) : d.dequeued.ports = d.ports := rfl

/-! ## idled -/

@[simp] theorem Device.idled_resetN (d : Device) : d.idled.resetN = d.resetN := rfl
@[simp] theorem Device.idled_attn (d : Device) : d.idled.attn = d.attn := rfl
@[simp] theorem Device.idled_strapLatch (d : Device) : d.idled.strapLatch = d.strapLatch := rfl
@[simp] theorem Device.idled_windows (d : Device) : d.idled.windows = d.windows := rfl
@[simp] theorem Device.idled_writeQueue (d : Device) : d.idled.writeQueue = d.writeQueue := rfl
@[simp] theorem Device.idled_readList (d : Device) : d.idled.readList = d.readList := rfl
@[simp] theorem Device.idled_presented (d : Device) : d.idled.presented = d.presented := rfl
@[simp] theorem Device.idled_arbiter (d : Device) : d.idled.arbiter = d.arbiter := rfl
@[simp] theorem Device.idled_outstanding (d : Device) : d.idled.outstanding = d.outstanding := rfl
@[simp] theorem Device.idled_engine (d : Device) : d.idled.engine = { d.engine with current := none } := rfl
@[simp] theorem Device.idled_tracks (d : Device) : d.idled.tracks = d.tracks := rfl
@[simp] theorem Device.idled_cuePool (d : Device) : d.idled.cuePool = d.cuePool := rfl
@[simp] theorem Device.idled_clipPool (d : Device) : d.idled.clipPool = d.clipPool := rfl
@[simp] theorem Device.idled_reports (d : Device) : d.idled.reports = d.reports := rfl
@[simp] theorem Device.idled_monitor (d : Device) : d.idled.monitor = d.monitor := rfl
@[simp] theorem Device.idled_nextArrival (d : Device) : d.idled.nextArrival = d.nextArrival := rfl
@[simp] theorem Device.idled_nextTag (d : Device) : d.idled.nextTag = d.nextTag := rfl
@[simp] theorem Device.idled_ports (d : Device) : d.idled.ports = d.ports := rfl

/-! ## countGrant -/

@[simp] theorem Device.countGrant_resetN (d : Device) (r : Requester) : (d.countGrant r).resetN = d.resetN := rfl
@[simp] theorem Device.countGrant_attn (d : Device) (r : Requester) : (d.countGrant r).attn = d.attn := rfl
@[simp] theorem Device.countGrant_strapLatch (d : Device) (r : Requester) : (d.countGrant r).strapLatch = d.strapLatch := rfl
@[simp] theorem Device.countGrant_windows (d : Device) (r : Requester) : (d.countGrant r).windows = d.windows := rfl
@[simp] theorem Device.countGrant_writeQueue (d : Device) (r : Requester) : (d.countGrant r).writeQueue = d.writeQueue := rfl
@[simp] theorem Device.countGrant_readList (d : Device) (r : Requester) : (d.countGrant r).readList = d.readList := rfl
@[simp] theorem Device.countGrant_presented (d : Device) (r : Requester) : (d.countGrant r).presented = d.presented := rfl
@[simp] theorem Device.countGrant_outstanding (d : Device) (r : Requester) : (d.countGrant r).outstanding = d.outstanding := rfl
@[simp] theorem Device.countGrant_engine (d : Device) (r : Requester) : (d.countGrant r).engine = d.engine := rfl
@[simp] theorem Device.countGrant_tracks (d : Device) (r : Requester) : (d.countGrant r).tracks = d.tracks := rfl
@[simp] theorem Device.countGrant_cuePool (d : Device) (r : Requester) : (d.countGrant r).cuePool = d.cuePool := rfl
@[simp] theorem Device.countGrant_clipPool (d : Device) (r : Requester) : (d.countGrant r).clipPool = d.clipPool := rfl
@[simp] theorem Device.countGrant_reports (d : Device) (r : Requester) : (d.countGrant r).reports = d.reports := rfl
@[simp] theorem Device.countGrant_monitor (d : Device) (r : Requester) : (d.countGrant r).monitor = d.monitor := rfl
@[simp] theorem Device.countGrant_nextArrival (d : Device) (r : Requester) : (d.countGrant r).nextArrival = d.nextArrival := rfl
@[simp] theorem Device.countGrant_nextTag (d : Device) (r : Requester) : (d.countGrant r).nextTag = d.nextTag := rfl
@[simp] theorem Device.countGrant_ports (d : Device) (r : Requester) : (d.countGrant r).ports = d.ports := rfl

/-! ## present -/

@[simp] theorem Device.present_resetN (d : Device) : d.present.resetN = d.resetN := rfl
@[simp] theorem Device.present_attn (d : Device) : d.present.attn = d.attn := rfl
@[simp] theorem Device.present_strapLatch (d : Device) : d.present.strapLatch = d.strapLatch := rfl
@[simp] theorem Device.present_windows (d : Device) : d.present.windows = d.windows := rfl
@[simp] theorem Device.present_writeQueue (d : Device) : d.present.writeQueue = d.writeQueue := rfl
@[simp] theorem Device.present_readList (d : Device) : d.present.readList = d.readList := rfl
@[simp] theorem Device.present_arbiter (d : Device) : d.present.arbiter = d.arbiter := rfl
@[simp] theorem Device.present_outstanding (d : Device) : d.present.outstanding = d.outstanding := rfl
@[simp] theorem Device.present_engine (d : Device) : d.present.engine = d.engine := rfl
@[simp] theorem Device.present_tracks (d : Device) : d.present.tracks = d.tracks := rfl
@[simp] theorem Device.present_cuePool (d : Device) : d.present.cuePool = d.cuePool := rfl
@[simp] theorem Device.present_clipPool (d : Device) : d.present.clipPool = d.clipPool := rfl
@[simp] theorem Device.present_reports (d : Device) : d.present.reports = d.reports := rfl
@[simp] theorem Device.present_monitor (d : Device) : d.present.monitor = d.monitor := rfl
@[simp] theorem Device.present_nextArrival (d : Device) : d.present.nextArrival = d.nextArrival := rfl
@[simp] theorem Device.present_nextTag (d : Device) : d.present.nextTag = d.nextTag := rfl
@[simp] theorem Device.present_ports (d : Device) : d.present.ports = d.ports := rfl

/-! ## settle -/

@[simp] theorem Device.settle_resetN (d : Device) : d.settle.resetN = d.resetN := rfl
@[simp] theorem Device.settle_attn (d : Device) : d.settle.attn = d.attnLevel := rfl
@[simp] theorem Device.settle_strapLatch (d : Device) : d.settle.strapLatch = d.strapLatch := rfl
@[simp] theorem Device.settle_windows (d : Device) : d.settle.windows = d.windows := rfl
@[simp] theorem Device.settle_writeQueue (d : Device) : d.settle.writeQueue = d.writeQueue := rfl
@[simp] theorem Device.settle_readList (d : Device) : d.settle.readList = d.readList := rfl
@[simp] theorem Device.settle_presented (d : Device) : d.settle.presented = d.present.presented := rfl
@[simp] theorem Device.settle_arbiter (d : Device) : d.settle.arbiter = d.arbiter := rfl
@[simp] theorem Device.settle_outstanding (d : Device) : d.settle.outstanding = d.outstanding := rfl
@[simp] theorem Device.settle_engine (d : Device) : d.settle.engine = d.engine := rfl
@[simp] theorem Device.settle_tracks (d : Device) : d.settle.tracks = d.tracks := rfl
@[simp] theorem Device.settle_cuePool (d : Device) : d.settle.cuePool = d.cuePool := rfl
@[simp] theorem Device.settle_clipPool (d : Device) : d.settle.clipPool = d.clipPool := rfl
@[simp] theorem Device.settle_reports (d : Device) : d.settle.reports = d.reports := rfl
@[simp] theorem Device.settle_monitor (d : Device) : d.settle.monitor = d.monitor := rfl
@[simp] theorem Device.settle_nextArrival (d : Device) : d.settle.nextArrival = d.nextArrival := rfl
@[simp] theorem Device.settle_nextTag (d : Device) : d.settle.nextTag = d.nextTag := rfl
@[simp] theorem Device.settle_ports (d : Device) : d.settle.ports = d.ports := rfl

/-! ## enterBypass -/

@[simp] theorem Device.enterBypass_resetN (d : Device) (k : ParityCause) (n : Nat) : (d.enterBypass k n).resetN = d.resetN := rfl
@[simp] theorem Device.enterBypass_attn (d : Device) (k : ParityCause) (n : Nat) : (d.enterBypass k n).attn = d.attn := rfl
@[simp] theorem Device.enterBypass_strapLatch (d : Device) (k : ParityCause) (n : Nat) : (d.enterBypass k n).strapLatch = d.strapLatch := rfl
@[simp] theorem Device.enterBypass_windows (d : Device) (k : ParityCause) (n : Nat) : (d.enterBypass k n).windows = bypassWindows d.strapLatch d.reports := rfl
@[simp] theorem Device.enterBypass_presented (d : Device) (k : ParityCause) (n : Nat) : (d.enterBypass k n).presented = d.presented := rfl
@[simp] theorem Device.enterBypass_arbiter (d : Device) (k : ParityCause) (n : Nat) : (d.enterBypass k n).arbiter = d.arbiter := rfl
@[simp] theorem Device.enterBypass_tracks (d : Device) (k : ParityCause) (n : Nat) : (d.enterBypass k n).tracks = Vector.replicate 16 TrackContext.freeContext := rfl
@[simp] theorem Device.enterBypass_cuePool (d : Device) (k : ParityCause) (n : Nat) : (d.enterBypass k n).cuePool = Vector.replicate 256 none := rfl
@[simp] theorem Device.enterBypass_clipPool (d : Device) (k : ParityCause) (n : Nat) : (d.enterBypass k n).clipPool = Vector.replicate 64 none := rfl
@[simp] theorem Device.enterBypass_monitor (d : Device) (k : ParityCause) (n : Nat) : (d.enterBypass k n).monitor = { d.monitor with faultCause := some k } := rfl
@[simp] theorem Device.enterBypass_nextArrival (d : Device) (k : ParityCause) (n : Nat) : (d.enterBypass k n).nextArrival = d.nextArrival := rfl
@[simp] theorem Device.enterBypass_nextTag (d : Device) (k : ParityCause) (n : Nat) : (d.enterBypass k n).nextTag = d.nextTag := rfl
@[simp] theorem Device.enterBypass_ports (d : Device) (k : ParityCause) (n : Nat) : (d.enterBypass k n).ports = d.ports := rfl

/-! ## Reading a context back -/

theorem Device.track_def (d : Device) (t : Slot) : d.track t = d.tracks[t.val] := rfl

@[simp] theorem Device.track_setTrack_self (d : Device) (t : Slot) (c : TrackContext) : (d.setTrack t c).track t = c := by
  simp [Device.track_def]

theorem Device.track_setTrack_of_ne (d : Device) {t u : Slot} (c : TrackContext) (h : t ≠ u) :
    (d.setTrack t c).track u = d.track u := by
  have h' : t.val ≠ u.val := fun e => h (Fin.ext e)
  simp [Device.track_def, h']

@[simp] theorem Device.track_setText_self (d : Device) (t : Slot) (x : TextTrack) :
    (d.setText t x).track t = { d.track t with body := .text x } :=
  d.track_setTrack_self t _

theorem Device.track_setText_of_ne (d : Device) {t u : Slot} (x : TextTrack) (h : t ≠ u) :
    (d.setText t x).track u = d.track u :=
  d.track_setTrack_of_ne _ h

@[simp] theorem Device.track_setClips_self (d : Device) (t : Slot) (x : ClipTrack) :
    (d.setClips t x).track t = { d.track t with body := .description x } :=
  d.track_setTrack_self t _

theorem Device.track_setClips_of_ne (d : Device) {t u : Slot} (x : ClipTrack) (h : t ≠ u) :
    (d.setClips t x).track u = d.track u :=
  d.track_setTrack_of_ne _ h

@[simp] theorem Device.track_setTrackState_self (d : Device) (t : Slot) (st : TrackState) :
    (d.setTrackState t st).track t = { d.track t with state := st } :=
  d.track_setTrack_self t _

theorem Device.track_setTrackState_of_ne (d : Device) {t u : Slot} (st : TrackState) (h : t ≠ u) :
    (d.setTrackState t st).track u = d.track u :=
  d.track_setTrack_of_ne _ h

@[simp] theorem Device.track_freeTrack_self (d : Device) (t : Slot) :
    (d.freeTrack t).track t = TrackContext.freeContext := by
  simp [Device.track_def]

theorem Device.track_freeTrack_of_ne (d : Device) {t u : Slot} (h : t ≠ u) : (d.freeTrack t).track u = d.track u := by
  have h' : t.val ≠ u.val := fun e => h (Fin.ext e)
  simp [Device.track_def, h']

@[simp] theorem Device.track_enterBypass (d : Device) (k : ParityCause) (n : Nat) (t : Slot) :
    (d.enterBypass k n).track t = TrackContext.freeContext := by
  simp [Device.track_def]

/-! ## An operation that leaves a table alone leaves its reading alone -/

theorem Device.track_congr {d e : Device} (h : d.tracks = e.tracks) (t : Slot) : d.track t = e.track t := by
  simp [Device.track_def, h]

theorem Device.cue_congr {d e : Device} (h : d.cuePool = e.cuePool) (i : Nat) : d.cue i = e.cue i := by
  simp [Device.cue, h]

theorem Device.clip_congr {d e : Device} (h : d.clipPool = e.clipPool) (i : Nat) : d.clip i = e.clip i := by
  simp [Device.clip, h]

theorem Device.trackCues_congr {d e : Device} (h : d.cuePool = e.cuePool) (t : Slot) : d.trackCues t = e.trackCues t := by
  simp [Device.trackCues, h]

theorem Device.trackClips_congr {d e : Device} (h : d.clipPool = e.clipPool) (t : Slot) :
    d.trackClips t = e.trackClips t := by
  simp [Device.trackClips, h]

theorem Device.schedule_congr {d e : Device} (h : d.clipPool = e.clipPool) (t : Slot) : d.schedule t = e.schedule t := by
  simp [Device.schedule, Device.trackClips_congr h]

end Sys2Proof.Machine
end

