-- ==== Sys2Proof/Laws/Lane.lean ====
section
/-! SUPPORT. What the processing of a burst does to a lane: the cursor passes the burst, the data keeps its length, and the
settings, the lane number and the underrun counter stay (R148). -/

namespace Sys2Proof.Machine

open Sys2Proof

/-- Two lane tracks that agree on what no frame changes. -/
structure ClipTrack.SameLane (x y : ClipTrack) : Prop where
  settings : y.settings = x.settings
  lane : y.lane = x.lane
  underruns : y.underruns = x.underruns
  counted : y.counters.underruns = x.counters.underruns
  revisits : y.counters.revisits = x.counters.revisits

theorem ClipTrack.SameLane.same (x : ClipTrack) : x.SameLane x := ⟨rfl, rfl, rfl, rfl, rfl⟩

theorem ClipTrack.SameLane.next {x y z : ClipTrack} (h : x.SameLane y) (k : y.SameLane z) : x.SameLane z :=
  ⟨k.settings.trans h.settings, k.lane.trans h.lane, k.underruns.trans h.underruns, k.counted.trans h.counted,
    k.revisits.trans h.revisits⟩

theorem ClipCounters.resolved_underruns (k : ClipCounters) (c : ClipSettings) (m : Meter) (r : Resolution) :
    (k.resolved c m r).underruns = k.underruns ∧ (k.resolved c m r).revisits = k.revisits := by
  cases r <;> exact ⟨rfl, rfl⟩

theorem LaneWork.release_x (w : LaneWork) (i : Nat) : (w.release i).x = w.x := by
  unfold LaneWork.release; split <;> rfl

theorem LaneWork.activate_same (w : LaneWork) (i : Nat) (e : ClipEntry) :
    w.x.SameLane (w.activate i e).x ∧ (w.activate i e).x.cursor = w.x.cursor := by
  refine ⟨⟨rfl, rfl, rfl, ?_, ?_⟩, rfl⟩
  · exact (ClipCounters.resolved_underruns ..).1
  · exact (ClipCounters.resolved_underruns ..).2

theorem LaneWork.changeClip_same (p : Nat) (w : LaneWork) (c : Nat × ClipEntry) :
    w.x.SameLane (w.changeClip p c).x ∧ (w.changeClip p c).x.cursor = w.x.cursor := by
  unfold LaneWork.changeClip
  dsimp only
  have a := LaneWork.activate_same w c.1 c.2
  split <;> split
  · rw [LaneWork.release_x]; exact a
  · rw [LaneWork.release_x]; exact ⟨.same _, rfl⟩
  · exact a
  · exact ⟨.same _, rfl⟩

theorem LaneWork.foldl_same (f : LaneWork → (Nat × ClipEntry) → LaneWork)
    (hf : ∀ w c, w.x.SameLane (f w c).x ∧ (f w c).x.cursor = w.x.cursor) (l : List (Nat × ClipEntry)) (w : LaneWork) :
    w.x.SameLane (l.foldl f w).x ∧ (l.foldl f w).x.cursor = w.x.cursor := by
  induction l generalizing w with
  | nil => exact ⟨.same _, rfl⟩
  | cons c l ih => exact ⟨(hf w c).1.next (ih (f w c)).1, (ih (f w c)).2.trans (hf w c).2⟩

theorem LaneWork.retireClip_same (pos : Nat) (w : LaneWork) (c : Nat × ClipEntry) :
    w.x.SameLane (w.retireClip pos c).x ∧ (w.retireClip pos c).x.cursor = w.x.cursor := by
  unfold LaneWork.retireClip
  split
  · exact ⟨⟨rfl, rfl, rfl, rfl, rfl⟩, rfl⟩
  · exact ⟨.same _, rfl⟩

theorem LaneWork.beginFrame_same (t : Slot) (w : LaneWork) :
    w.x.SameLane (w.beginFrame t).x ∧ (w.beginFrame t).x.cursor = w.x.cursor := by
  have h := LaneWork.foldl_same (LaneWork.changeClip w.x.cursor) (LaneWork.changeClip_same w.x.cursor)
    (scheduleIn t w.pool) { w with x := { w.x with meter := w.x.meter.advanced w.x.cursor } }
  refine ⟨ClipTrack.SameLane.next ?_ h.1, h.2⟩
  exact ⟨rfl, rfl, rfl, rfl, rfl⟩

theorem LaneWork.advanceTo_same (t : Slot) (pos : Nat) (w : LaneWork) :
    w.x.SameLane (w.advanceTo t pos).x ∧ (w.advanceTo t pos).x.cursor = pos := by
  have h := LaneWork.foldl_same (LaneWork.retireClip pos) (LaneWork.retireClip_same pos) (scheduleIn t w.pool)
    { w with x := { w.x with cursor := pos, meter := w.x.meter.advanced pos } }
  refine ⟨ClipTrack.SameLane.next ?_ h.1, h.2⟩
  exact ⟨rfl, rfl, rfl, rfl, rfl⟩

theorem ClipTrack.takeSample_same (x : ClipTrack) (o : Option (Nat × ClipEntry)) (p : Nat) :
    x.SameLane (x.takeSample o p).2.2 ∧ (x.takeSample o p).2.2.cursor = x.cursor := by
  unfold ClipTrack.takeSample
  split
  · exact ⟨.same _, rfl⟩
  · split
    · exact ⟨.same _, rfl⟩
    · dsimp only
      split <;> exact ⟨⟨rfl, rfl, rfl, rfl, rfl⟩, rfl⟩

theorem LaneWork.meterFrame_same (l r : Int) (w : LaneWork) : w.x.SameLane (w.meterFrame l r).x :=
  ⟨rfl, rfl, rfl, rfl, rfl⟩

theorem LaneWork.mixFrame_same (t : Slot) (l r : Int) (w : LaneWork) :
    w.x.SameLane (w.mixFrame t l r).1.x ∧ (w.mixFrame t l r).1.x.cursor = w.x.cursor := by
  have h := w.x.takeSample_same (playingClip w.x.cursor (scheduleIn t w.pool)) w.x.cursor
  exact ⟨h.1.next ⟨rfl, rfl, rfl, rfl, rfl⟩, h.2⟩

theorem LaneWork.fullFrame_same (t : Slot) (l r : Int) (w : LaneWork) :
    w.x.SameLane (w.fullFrame t l r).1.x ∧ (w.fullFrame t l r).1.x.cursor = w.x.cursor + 1 := by
  unfold LaneWork.fullFrame
  have a := w.beginFrame_same t
  generalize w.beginFrame t = u at *
  have m := u.meterFrame_same l r
  have mc : (u.meterFrame l r).x.cursor = u.x.cursor := rfl
  generalize u.meterFrame l r = v at *
  have b := v.mixFrame_same t l r
  generalize v.mixFrame t l r = z at *
  have c := z.1.advanceTo_same t (z.1.x.cursor + 1)
  exact ⟨((a.1.next m).next b.1).next c.1, by rw [c.2, b.2, mc, a.2]⟩

theorem LaneWork.partialFrame_same (t : Slot) (w : LaneWork) :
    w.x.SameLane (w.partialFrame t).x ∧ (w.partialFrame t).x.cursor = w.x.cursor + 1 := by
  unfold LaneWork.partialFrame
  have a := w.beginFrame_same t
  generalize w.beginFrame t = u at *
  have c := u.advanceTo_same t (u.x.cursor + 1)
  exact ⟨a.1.next c.1, by rw [c.2, a.2]⟩

/-- A beat moves the cursor by two; a partial beat keeps its data and a full one keeps its strobes (R147, R148). -/
theorem LaneWork.beat_spec (t : Slot) (b : Beat) (w : LaneWork) :
    w.x.SameLane (w.beat t b).1.x ∧ (w.beat t b).1.x.cursor = w.x.cursor + 2 ∧
      if b.strobes = 255 then (w.beat t b).2.strobes = 255 else (w.beat t b).2 = b := by
  by_cases h : b.strobes = 255
  · have hb : isFullBeat b = true := by simp [isFullBeat, h]
    have f0 := w.fullFrame_same t (sampleAt b.data 0) (sampleAt b.data 1)
    have f1 := (w.fullFrame t (sampleAt b.data 0) (sampleAt b.data 1)).1.fullFrame_same t (sampleAt b.data 2)
      (sampleAt b.data 3)
    simp only [LaneWork.beat, hb, if_true, h]
    exact ⟨f0.1.next f1.1, by rw [f1.2, f0.2], trivial⟩
  · have hb : isFullBeat b = false := by simpa [isFullBeat] using h
    have flag : ∀ x : ClipTrack, x.SameLane { x with counters := { x.counters with partialFlag := true } } :=
      fun x => ⟨rfl, rfl, rfl, rfl, rfl⟩
    have p0 := w.partialFrame_same t
    have p1 := (w.partialFrame t).partialFrame_same t
    rw [if_neg h]
    simp only [LaneWork.beat, hb, if_false, Bool.false_eq_true]
    exact ⟨(p0.1.next p1.1).next (flag _), by rw [p1.2, p0.2], trivial⟩

/-- A run of beats: the cursor moves by two a beat and each beat is treated as `beat_spec` says. -/
theorem LaneWork.beats_spec (t : Slot) (bs : List Beat) (w : LaneWork) :
    w.x.SameLane (LaneWork.beats t bs w).1.x ∧ (LaneWork.beats t bs w).1.x.cursor = w.x.cursor + 2 * bs.length ∧
      List.Forall₂ (fun (a b : Beat) => if a.strobes = 255 then b.strobes = 255 else b = a) bs
        (LaneWork.beats t bs w).2 := by
  induction bs generalizing w with
  | nil => exact ⟨.same _, rfl, .nil⟩
  | cons b bs ih =>
    have h := w.beat_spec t b
    have k := ih (w.beat t b).1
    refine ⟨h.1.next k.1, ?_, .cons h.2.2 k.2.2⟩
    show (LaneWork.beats t bs (w.beat t b).1).1.x.cursor = _
    rw [k.2.1, h.2.1, List.length_cons]
    omega

theorem LaneWork.jump_same (t : Slot) (p : Nat) (w : LaneWork) :
    w.x.SameLane (w.jump t p).x ∧ (w.jump t p).x.cursor = max w.x.cursor p := by
  unfold LaneWork.jump
  split
  · rename_i h
    have a := LaneWork.advanceTo_same t p
      { w with
        x := { w.x with counters := { w.x.counters with gapFrames := satAdd w.x.counters.gapFrames (p - w.x.cursor) } } }
    refine ⟨ClipTrack.SameLane.next ?_ a.1, a.2.trans (by omega)⟩
    exact ⟨rfl, rfl, rfl, rfl, rfl⟩
  · exact ⟨.same _, by omega⟩

/-- A processed burst (R146, R148, R154). -/
theorem LaneWork.process_spec (t : Slot) (p : Nat) (bs : List Beat) (w : LaneWork) :
    w.x.SameLane (LaneWork.process t p bs w).1.x ∧
      (LaneWork.process t p bs w).1.x.cursor = max w.x.cursor p + 2 * bs.length ∧
      (LaneWork.process t p bs w).1.x.stagingBase = (LaneWork.process t p bs w).1.x.cursor ∧
      (LaneWork.process t p bs w).1.x.held = none ∧ (LaneWork.process t p bs w).1.x.timer = .idle ∧
      List.Forall₂ (fun (a b : Beat) => if a.strobes = 255 then b.strobes = 255 else b = a) bs
        (LaneWork.process t p bs w).2 := by
  have j := w.jump_same t p
  have b := (w.jump t p).beats_spec t bs
  unfold LaneWork.process
  dsimp only
  generalize LaneWork.beats t bs (w.jump t p) = q at *
  exact ⟨(j.1.next b.1).next ⟨rfl, rfl, rfl, rfl, rfl⟩, by rw [b.2.1, j.2], rfl, rfl, rfl, b.2.2⟩

/-- The lane's look for its next request: nothing is done, or the context's clip part alone is written. -/
theorem Device.laneRefresh_cases (d : Device) (t : Slot) :
    d.laneRefresh t = d ∨ ∃ x, (d.track t).clips = some x ∧ (d.track t).state.mixes = true ∧
      d.laneRefresh t = d.setClips t ((x.trimmed (d.schedule t)).requesting (d.schedule t) d.nextArrival) := by
  unfold Device.laneRefresh
  cases hx : (d.track t).clips with
  | none => exact .inl rfl
  | some x =>
    by_cases hm : (d.track t).state.mixes = true
    · exact .inr ⟨x, rfl, hm, by simp [hm]⟩
    · exact .inl (by simp [hm])

/-- The lane's reading of its schedule: none outside the states that mix, the monitor told of a damaged entry, or the look for
the next request. -/
theorem Device.laneReads_cases (d : Device) (t : Slot) :
    ((d.track t).state.mixes = false ∧ d.laneReads t = d) ∨
      (∃ i, (d.track t).state.mixes = true ∧ d.damagedClip t = some i ∧ d.laneReads t = d.tellMonitor .clip i) ∨
        (d.track t).state.mixes = true ∧ d.damagedClip t = none ∧ d.laneReads t = d.laneRefresh t := by
  unfold Device.laneReads
  cases hm : (d.track t).state.mixes with
  | false => exact .inl ⟨rfl, rfl⟩
  | true =>
    cases hi : d.damagedClip t with
    | none => exact .inr (.inr ⟨rfl, rfl, by simp⟩)
    | some i => exact .inr (.inl ⟨i, rfl, rfl, by simp⟩)

/-- A close decision: the device as it was before the event's work, with the monitor told of a damaged ACTIVE cue that a close
would read, or the closes made. -/
theorem Device.decideClose_cases {d : Device} {t : Slot} {x : TextTrack} (h : (d.track t).text = some x) (before : Device) :
    (∃ i, d.closeReady t = true ∧ d.damagedActive t = some i ∧ d.decideClose t before = before.tellMonitor .cue i) ∨
      d.decideClose t before = Device.makeCloses (x.capacity + 1) d t := by
  unfold Device.decideClose
  simp only [h]
  cases hr : d.closeReady t with
  | false => exact .inr (by simp)
  | true =>
    cases hi : d.damagedActive t with
    | none => exact .inr (by simp)
    | some i => exact .inl ⟨i, rfl, rfl, by simp⟩

/-! ## Closes -/

open Sys2Proof.Safety

@[simp] theorem openedAfter_zero (x : TextTrack) : openedAfter x 0 = x := rfl

@[simp] theorem openedAfter_next (x : TextTrack) (n : Nat) : (openedAfter x n).next = x.next + n := by
  cases n <;> rfl

/-- One close more (R98 steps 6 and 7). -/
theorem openedAfter_succ (x : TextTrack) (n : Nat) (r : SegmentRecord) :
    openedAfter x (n + 1) =
      { (openedAfter x n).closed r with
        slots := x.slots
        records := x.records
        flight := x.flight
        waitingClose := x.waitingClose } := by
  rcases n with _ | n
  · simp [openedAfter, TextTrack.closed, TextTrack.openEnd]
  · simp [openedAfter, TextTrack.closed, TextTrack.openEnd, Nat.succ_mul]
    omega

/-- A close retires the track's ACTIVE cues that end by its boundary, and changes no other entry (R101). -/
theorem Device.cue_closeSegment (d : Device) (t : Slot) (x : TextTrack) (i : Nat) :
    (d.closeSegment t x).cue i =
      (d.cue i).map fun c => if c.endsBy t x.openEnd then { c with status := .retired x.next } else c := by
  unfold Device.cue Device.closeSegment retireCues
  simp only [Vector.getElem?_map]
  rcases d.cuePool[i]? with _ | _ | c <;> simp
  split <;> rfl

end Sys2Proof.Machine
end

