-- ==== Sys2Proof/Laws/Ops.lean ====
section
/-! SUPPORT. What each shared operation can do, said once: events and steps, the report writer's posting, the taking and dispatch
of a directive, parity errors, the head of the write queue, and the pools read as lists. -/

namespace Sys2Proof.Machine

open Sys2Proof

/-! ## Steps and events -/

theorem step_cons (c : Instr) (rest : List Instr) (d : Device) :
    step { pending := c :: rest, dev := d } = exec c { pending := rest, dev := d } := rfl

theorem step_nil (d : Device) : step { pending := [], dev := d } = .next { pending := [], dev := d } := rfl

theorem Device.event_released {d : Device} (h : d.resetN = true) (work : Device → Device) :
    d.event work = (work { d with ports := [] }).settle := by
  simp [Device.event, h]

theorem Device.event_inReset {d : Device} (h : d.resetN = false) (work : Device → Device) :
    d.event work = { d with ports := [] } := by
  simp [Device.event, h]

theorem State.ran_released {s : State} (h : s.dev.resetN = true) (work : Device → Device) :
    s.ran work = .next { s with dev := (work { s.dev with ports := [] }).settle } := by
  simp [State.ran, Device.event_released h]

/-! ## Counts -/

theorem satAdd_le (c r : Nat) : satAdd c r ≤ Config.countLimit :=
  Nat.min_le_left _ _

theorem satAdd_of_le {c r : Nat} (h : c + r ≤ Config.countLimit) : satAdd c r = c + r :=
  Nat.min_eq_right h

theorem countIf_le {b : Bool} {c : Nat} (h : c ≤ Config.countLimit) : countIf b c ≤ Config.countLimit := by
  cases b
  · exact h
  · exact satAdd_le c 1

/-! ## Posting (R163) -/

theorem ReportWriter.posted_cases (w : ReportWriter) (x : Report) :
    (w.accepts = true ∧ w.posted x = { w with queue := w.queue ++ [x] }) ∨
      (w.accepts = false ∧ w.posted x = { w with lost := satAdd w.lost 1 }) := by
  unfold ReportWriter.posted
  cases w.accepts <;> simp

theorem ReportWriter.accepts_iff (w : ReportWriter) :
    w.accepts = true ↔ ∃ r, w.ring = some r ∧ w.queue.length < Config.postQueueDepth ∧
      r.written - r.read + (if w.writing.isSome then 1 else 0) + w.queue.length < r.slotCount := by
  unfold ReportWriter.accepts
  cases w.ring <;> simp

@[simp] theorem ReportWriter.posted_ring (w : ReportWriter) (x : Report) : (w.posted x).ring = w.ring := by
  rcases w.posted_cases x with ⟨-, h⟩ | ⟨-, h⟩ <;> simp [h]

@[simp] theorem ReportWriter.posted_writing (w : ReportWriter) (x : Report) : (w.posted x).writing = w.writing := by
  rcases w.posted_cases x with ⟨-, h⟩ | ⟨-, h⟩ <;> simp [h]

/-! ## Directives (R25, R27) -/

theorem Device.takeDirective_good {d : Device} {k : DirectiveKind} {q : QueuedDirective} {rest : List QueuedDirective}
    (hc : d.engine.current = none) (hq : d.engine.queue = q :: rest) (hk : directiveKind q.directive.kind = k)
    (hp : q.parityOk = true) (run : Device → Directive → Device) :
    d.takeDirective k run = run d.dequeued q.directive := by
  simp [Device.takeDirective, hc, hq, hk, hp]

theorem Device.takeDirective_bad {d : Device} {k : DirectiveKind} {q : QueuedDirective} {rest : List QueuedDirective}
    (hc : d.engine.current = none) (hq : d.engine.queue = q :: rest) (hk : directiveKind q.directive.kind = k)
    (hp : q.parityOk = false) (run : Device → Directive → Device) :
    d.takeDirective k run = d.dequeued.tellMonitor .queue 0 := by
  simp [Device.takeDirective, hc, hq, hk, hp]

/-- What the taking of a directive can come to. -/
theorem Device.takeDirective_cases (d : Device) (k : DirectiveKind) (run : Device → Directive → Device) :
    (∃ q rest, d.engine.current = none ∧ d.engine.queue = q :: rest ∧ directiveKind q.directive.kind = k ∧
        q.parityOk = true ∧ d.takeDirective k run = run d.dequeued q.directive) ∨
      d.takeDirective k run = d.dequeued.tellMonitor .queue 0 ∨ d.takeDirective k run = d := by
  unfold Device.takeDirective
  split
  · rename_i q rest hc hq
    by_cases hk : directiveKind q.directive.kind = k
    · cases hp : q.parityOk
      · exact .inr (.inl (by simp [hk]))
      · exact .inl ⟨q, rest, hc, hq, hk, hp, by simp [hk]⟩
    · exact .inr (.inr (by simp [hk]))
  · exact .inr (.inr rfl)
  · exact .inr (.inr rfl)

theorem Device.dispatch_bypass {d : Device} (h : d.engine.mode = .bypass) (x : Directive)
    (run : Slot → TrackContext → Device) : d.dispatch x run = d.refuse x .bypass := by
  simp [Device.dispatch, h]

theorem Device.dispatch_badSlot {d : Device} (h : d.engine.mode = .normal) {x : Directive}
    (hs : slotOfField x.slotField = none) (run : Slot → TrackContext → Device) :
    d.dispatch x run = d.refuse x .badSlot := by
  simp [Device.dispatch, h, hs]

theorem Device.dispatch_slot {d : Device} (h : d.engine.mode = .normal) {x : Directive} {t : Slot}
    (hs : slotOfField x.slotField = some t) (run : Slot → TrackContext → Device) :
    d.dispatch x run = d.readingTrack t (run t) := by
  simp [Device.dispatch, h, hs]

/-! ## Parity errors (R172 to R176) -/

theorem Device.readingTrack_good {d : Device} {t : Slot} (h : (d.track t).parityOk = true)
    (k : TrackContext → Device) : d.readingTrack t k = k (d.track t) := by
  simp [Device.readingTrack, h]

theorem Device.readingTrack_bad {d : Device} {t : Slot} (h : (d.track t).parityOk = false)
    (k : TrackContext → Device) : d.readingTrack t k = d.tellMonitor .track t.val := by
  simp [Device.readingTrack, h]

theorem Device.tellMonitor_normal {d : Device} (h : d.engine.mode = .normal) (k : ParityCause) (n : Nat) :
    d.tellMonitor k n = d.enterBypass k n := by
  simp [Device.tellMonitor, h]

theorem Device.tellMonitor_bypass {d : Device} (h : d.engine.mode = .bypass) (k : ParityCause) (n : Nat) :
    d.tellMonitor k n = d.repeatFault k n := by
  simp [Device.tellMonitor, h]

@[simp] theorem Device.enterBypass_mode (d : Device) (k : ParityCause) (n : Nat) :
    (d.enterBypass k n).engine.mode = .bypass := rfl

/-! ## The head of the write queue (R10) -/

theorem Device.offerHead_of_dealt {d : Device} (h : ∀ w ∈ d.writeQueue.head?, w.status ≠ .waiting) :
    d.offerHead = d := by
  unfold Device.offerHead
  cases hq : d.writeQueue with
  | nil => rfl
  | cons w rest => simp [h w (by simp [hq])]

theorem Device.offerHead_of_noLane {d : Device} {w : QueuedWrite} {rest : List QueuedWrite}
    (hq : d.writeQueue = w :: rest) (hw : w.status = .waiting) (hl : w.lane = none) :
    d.offerHead = d.answerHead w.beats := by
  simp [Device.offerHead, hq, hw, hl]

theorem Device.offerHead_of_lane {d : Device} {w : QueuedWrite} {rest : List QueuedWrite} {t : Slot}
    (hq : d.writeQueue = w :: rest) (hw : w.status = .waiting) (hl : w.lane = some t) : d.offerHead = d.offer t w := by
  simp [Device.offerHead, hq, hw, hl]

theorem Device.matchBurst_good {d : Device} (h : d.damagedWindows = []) (a : Addr) :
    d.matchBurst a = (d, d.lookup a) := by
  simp [Device.matchBurst, h]

/-! ## The pools as lists -/

theorem mem_poolEntries {α : Type} {i : Nat} {x : α} :
    ∀ {n : Nat} {l : List (Option α)}, (i, x) ∈ poolEntries n l ↔ n ≤ i ∧ l[i - n]? = some (some x)
  | n, [] => by simp [poolEntries]
  | n, none :: l => by
    rw [poolEntries, mem_poolEntries]
    constructor
    · rintro ⟨h, e⟩
      exact ⟨by omega, by rw [show i - n = i - (n + 1) + 1 by omega]; simpa using e⟩
    · rintro ⟨h, e⟩
      rcases Nat.eq_or_lt_of_le h with rfl | h'
      · simp at e
      · exact ⟨h', by rw [show i - n = i - (n + 1) + 1 by omega] at e; simpa using e⟩
  | n, some y :: l => by
    rw [poolEntries, List.mem_cons, mem_poolEntries]
    constructor
    · rintro (h | ⟨h, e⟩)
      · cases h; simp
      · exact ⟨by omega, by rw [show i - n = i - (n + 1) + 1 by omega]; simpa using e⟩
    · rintro ⟨h, e⟩
      rcases Nat.eq_or_lt_of_le h with rfl | h'
      · left; simpa using e.symm
      · right; exact ⟨h', by rw [show i - n = i - (n + 1) + 1 by omega] at e; simpa using e⟩

theorem Device.mem_trackCues {d : Device} {t : Slot} {i : Nat} {c : CueEntry} :
    (i, c) ∈ d.trackCues t ↔ d.cue i = some c ∧ c.track = t := by
  simp [Device.trackCues, mem_poolEntries, Device.cue, Option.join_eq_some_iff]

theorem Device.mem_trackClips {d : Device} {t : Slot} {i : Nat} {c : ClipEntry} :
    (i, c) ∈ d.trackClips t ↔ d.clip i = some c ∧ c.track = t := by
  simp [Device.trackClips, mem_poolEntries, Device.clip, Option.join_eq_some_iff]

theorem mem_insertBy {α : Type} {before : α → α → Bool} {x y : α} :
    ∀ {l : List α}, y ∈ insertBy before x l ↔ y = x ∨ y ∈ l
  | [] => by simp [insertBy]
  | z :: l => by
    unfold insertBy
    split
    · simp
    · simp only [List.mem_cons, mem_insertBy]
      tauto

theorem mem_foldl_insertBy {α : Type} {before : α → α → Bool} {y : α} :
    ∀ {l a : List α}, y ∈ l.foldl (fun b x => insertBy before x b) a ↔ y ∈ l ∨ y ∈ a
  | [], a => by simp
  | z :: l, a => by
    rw [List.foldl_cons, mem_foldl_insertBy, mem_insertBy, List.mem_cons]
    tauto

theorem Device.mem_activeCues {d : Device} {t : Slot} {i : Nat} {c : CueEntry} :
    (i, c) ∈ d.activeCues t ↔ d.cue i = some c ∧ c.track = t ∧ c.status = .active := by
  simp [Device.activeCues, mem_foldl_insertBy, Device.mem_trackCues, and_assoc]

theorem Device.mem_schedule {d : Device} {t : Slot} {i : Nat} {c : ClipEntry} :
    (i, c) ∈ d.schedule t ↔ d.clip i = some c ∧ c.track = t := by
  simp [Device.schedule, mem_foldl_insertBy, Device.mem_trackClips]

/-- The schedule in a clip pool is the device's own. -/
theorem Device.schedule_eq (d : Device) (t : Slot) : d.schedule t = scheduleIn t d.clipPool := rfl

theorem lowestFree_spec {α : Type} {i : Nat} :
    ∀ {n : Nat} {l : List (Option α)}, lowestFree n l = some i →
      n ≤ i ∧ l[i - n]? = some none ∧ ∀ j, n ≤ j → j < i → ∃ x, l[j - n]? = some (some x)
  | n, [], h => by simp [lowestFree] at h
  | n, none :: l, h => by
    simp only [lowestFree, Option.some.injEq] at h
    subst h
    exact ⟨Nat.le_refl _, by simp, fun j h1 h2 => absurd h1 (by omega)⟩
  | n, some x :: l, h => by
    obtain ⟨h1, h2, h3⟩ := lowestFree_spec (n := n + 1) (l := l) (by simpa [lowestFree] using h)
    refine ⟨by omega, by rw [show i - n = i - (n + 1) + 1 by omega]; simpa using h2, fun j h4 h5 => ?_⟩
    rcases Nat.eq_or_lt_of_le h4 with rfl | h'
    · exact ⟨x, by simp⟩
    · obtain ⟨y, hy⟩ := h3 j h' h5
      exact ⟨y, by rw [show j - n = j - (n + 1) + 1 by omega]; simpa using hy⟩

/-! ## The window table (R3, R4) -/

theorem Device.rangeFree_iff {d : Device} {o : Option EntryNo} {b : Addr} {n : Nat} :
    d.rangeFree o b n = true ↔ ∀ (i : EntryNo) (e : WindowEntry), d.windows[i.val] = some e → o ≠ some i →
      rangesOverlap b.toNat n e.window.base.toNat e.window.size = false := by
  simp only [Device.rangeFree, List.all_eq_true, List.mem_finRange, true_implies]
  constructor
  · intro h i e he ho
    have := h i
    simp_all
  · intro h i
    split
    · rfl
    · rename_i e he
      by_cases ho : o = some i
      · simp [ho]
      · simp [ho, h i e he ho]

theorem Device.lookup_spec {d : Device} {a : Addr} {m : WindowMatch} (h : d.lookup a = some m) :
    ∃ e, d.windows[m.entry.val] = some e ∧ m.window = e.window ∧ e.window.holds a = true := by
  obtain ⟨i, -, hi⟩ := List.exists_of_findSome?_eq_some h
  split at hi
  · cases hi
  · rename_i e he
    split at hi
    · cases hi; exact ⟨e, he, rfl, ‹_›⟩
    · cases hi

end Sys2Proof.Machine
end

