-- ==== Sys2Proof/Laws/Tables.lean ====
section
/-! SUPPORT. What the table operations leave in the window table, the track table and the pools, entry by entry. -/

namespace Sys2Proof.Machine

open Sys2Proof

theorem Device.install_entry (d : Device) (i j : EntryNo) (w : Window) :
    (d.install i w).windows[j.val] = if j = i then some ⟨w, true⟩ else d.windows[j.val] := by
  simp only [Device.install]
  by_cases h : j = i
  · subst h; simp
  · have : i.val ≠ j.val := fun e => h (Fin.ext e.symm)
    simp [h, Vector.getElem_set_ne, this]

theorem Device.removeWindows_entry (d : Device) (p : EntryNo → Bool) (j : EntryNo) :
    (d.removeWindows p).windows[j.val] = if p j then none else d.windows[j.val] := by
  simp [Device.removeWindows]

theorem Device.freeTrack_entry (d : Device) (t : Slot) (j : EntryNo) :
    (d.freeTrack t).windows[j.val] = if j = intakeEntry t ∨ j = outputEntry t then none else d.windows[j.val] := by
  simp [Device.freeTrack, Device.removeWindows, Device.setTrack]

theorem Device.freeTrack_cue (d : Device) (t : Slot) (i : Nat) (c : CueEntry) :
    (d.freeTrack t).cue i = some c ↔ d.cue i = some c ∧ c.track ≠ t := by
  simp only [Device.cue, Device.freeTrack, freeCues, Vector.getElem?_map]
  rcases d.cuePool[i]? with _ | _ | a
  · simp
  · simp
  · by_cases h : a.track = t
    · simp only [Option.map_some, h, if_true, Option.join_some, Option.some.injEq]
      constructor
      · intro e; cases e
      · rintro ⟨rfl, e⟩; exact absurd h e
    · simp only [Option.map_some, h, if_false, Option.join_some, Option.some.injEq]
      constructor
      · rintro rfl; exact ⟨rfl, h⟩
      · exact fun e => e.1

theorem Device.freeTrack_clip (d : Device) (t : Slot) (i : Nat) (c : ClipEntry) :
    (d.freeTrack t).clip i = some c ↔ d.clip i = some c ∧ c.track ≠ t := by
  simp only [Device.clip, Device.freeTrack, freeClips, Vector.getElem?_map]
  rcases d.clipPool[i]? with _ | _ | a
  · simp
  · simp
  · by_cases h : a.track = t
    · simp only [Option.map_some, h, if_true, Option.join_some, Option.some.injEq]
      constructor
      · intro e; cases e
      · rintro ⟨rfl, e⟩; exact absurd h e
    · simp only [Option.map_some, h, if_false, Option.join_some, Option.some.injEq]
      constructor
      · rintro rfl; exact ⟨rfl, h⟩
      · exact fun e => e.1

theorem Device.enterBypass_track (d : Device) (k : ParityCause) (n : Nat) (t : Slot) :
    (d.enterBypass k n).track t = TrackContext.freeContext := by
  simp [Device.enterBypass, Device.post, Device.track]

theorem Device.enterBypass_cue (d : Device) (k : ParityCause) (n i : Nat) : (d.enterBypass k n).cue i = none := by
  simp only [Device.enterBypass, Device.post, Device.cue, Vector.getElem?_replicate]
  split <;> rfl

theorem Device.enterBypass_clip (d : Device) (k : ParityCause) (n i : Nat) : (d.enterBypass k n).clip i = none := by
  simp only [Device.enterBypass, Device.post, Device.clip, Vector.getElem?_replicate]
  split <;> rfl

end Sys2Proof.Machine
end

