-- ==== Sys2Proof/Tests/Slice0.lean ====
section
/-! SUPPORT. Checks of the model on small states: ill-formed commands, the spec's worked figures, one step of each command, and
for each statement with hypotheses a state that meets them. -/

namespace Sys2Proof.Tests

open Sys2Proof Sys2Proof.Machine Sys2Proof.Safety

/-! ## States -/

/-- The device after reset with the control window at 16 MiB. -/
def dev0 : Device := Device.released 1 7

/-- The report ring of the tests: 4 KiB at 0x10000. -/
def ring0 : ReportRing := ⟨0x10000, 4096, 0, 0, List.replicate 64 .empty⟩

/-- The device with a report ring set. -/
def dev1 : Device :=
  { dev0.install 1 ⟨0x10000, 4096, .report, none⟩ with reports := ⟨some ring0, [], none, 3⟩ }

/-- A TEXT track of rate code 2 with 16 index slots and segments of 50 frames. -/
def text0 : TextTrack where
  settings := ⟨⟨2, false, 0⟩, 0x20000, 4096, 0x30000, 16384, 4, 2, 25, 15, 42⟩
  tuning := ⟨50, 10, .auto, .shift⟩
  pendingRetune := none
  flushFrame := none
  drainEnd := none
  horizon := none
  nextArrival := 0
  next := 0
  openStart := 0
  openLength := 50
  consume := 0
  slots := List.replicate 16 .empty
  records := []
  flight := none
  waitingClose := false
  counters := ⟨0, 0, 0, 0, 0, 0, 0, 0, 0, 0, 0, 0, 0, 0, 0, 0, 0, 0, 0, 0, 0, 0⟩

/-- A DESCRIPTION track of rate code 2 on lane 0. -/
def clips0 : ClipTrack where
  settings := ⟨⟨2, false, 0⟩, 0x40000, 4096, 0x100000, 65536, 4, 500, 1000, 8192, 32768, .fixed, 0, 4000, 500, 8192,
    16384, 3000, 4096, 200⟩
  lane := 0
  degradedMark := none
  cursor := 0
  stagingBase := 0
  staged := []
  reads := []
  request := none
  held := none
  timer := .idle
  underruns := 0
  meter := ⟨[], 0, 0, .shallow⟩
  counters := ⟨0, 0, 0, 0, 0, 0, 0, 0, 0, 0, 0, 0, 0, 0, 0, 0, 0, 0, 0, 0, 0, 0, 0, 0, false, false, false, false⟩

/-- A context in a state, with this body. -/
def context (st : TrackState) (body : TrackBody) : TrackContext :=
  { TrackContext.freeContext with state := st, body := body }

/-- A TEXT track in slot 2, with its windows. -/
def devText (st : TrackState) (x : TextTrack) : Device :=
  ((dev1.install (intakeEntry 2) ⟨0x20000, 4096, .textIntake, some 2⟩).install (outputEntry 2)
    ⟨0x30000, 16384, .index, some 2⟩).setTrack 2 (context st (.text x))

/-- A DESCRIPTION track in slot 5, with its windows. -/
def devClips (st : TrackState) (x : ClipTrack) : Device :=
  ((dev1.install (intakeEntry 5) ⟨0x40000, 4096, .clipIntake, some 5⟩).install (outputEntry 5)
    ⟨0x100000, 65536, .mix, some 5⟩).setTrack 5 (context st (.description x))

/-- A device as a state with no command waiting. -/
def on (d : Device) : State := ⟨[], d⟩

/-- The device after a command, the one before it where the command is refused. -/
def after (c : Instr) (d : Device) : Device :=
  match exec c (on d) with
  | .next s => s.dev
  | .fault _ => d
  | .refused _ => d

/-- A directive record of a kind, a slot field and three operands. -/
def directive (kind slot : Byte) (a b c : Word) : Directive := ⟨kind, slot, a, b, c, 3, 9⟩

/-- A device whose oldest queued directive is this one. -/
def asked (d : Device) (x : Directive) : Device :=
  { d with engine := { d.engine with queue := [⟨x, true⟩] } }

/-! ## The check of a command (spec 00 section 2.7) -/

theorem test_illFormed_emptyWrite : Instr.wellFormed (.upstreamWrite 0 0 []) = false := by decide
theorem test_illFormed_longRead : Instr.wellFormed (.upstreamRead 0 0 17) = false := by decide
theorem test_illFormed_offBeat : Instr.wellFormed (.upstreamRead 0 4 1) = false := by decide
theorem test_illFormed_pageCrossing : Instr.wellFormed (.upstreamRead 0 4088 2) = false := by decide
theorem test_illFormed_longData :
    Instr.wellFormed (.prefetchResponse 0 .ok (List.replicate 17 0)) = false := by decide
theorem test_wellFormed_pageEnd : Instr.wellFormed (.upstreamRead 0 4088 1) = true := by decide
theorem test_illFormed_refused : exec (.upstreamRead 0 4088 2) (on dev0) = .refused .notABurst := rfl

/-! ## Worked figures of the spec -/

/-- Spec 04 section 4.13, drop-frame labels at code 3. -/
theorem test_dropFrame :
    [(⟨0, 0, 59, 29⟩, 1799), (⟨0, 1, 0, 0⟩, 1800), (⟨0, 1, 0, 2⟩, 1800), (⟨0, 1, 0, 3⟩, 1801), (⟨0, 9, 59, 29⟩, 17981),
      (⟨0, 10, 0, 0⟩, 17982), (⟨1, 0, 0, 0⟩, 107892), (⟨23, 59, 59, 29⟩, 2589407)].all
      (fun x : Timecode × Nat => x.1.frames 3 true == x.2) = true := by decide

/-- Spec 04 section 4.13, ticks at the N/1001 rates. -/
theorem test_ticks : ticks 3 61 = 97698 ∧ ticks 3 17982 = 28799971 ∧ ticks 6 3 = 2402 ∧ ticks 0 1000 = 2002000 ∧
    ticks 3 300 = 480480 := by decide

/-- Spec 04 section 4.13, the timeline limit at code 0. -/
theorem test_timelineLimit : beyondLimit 0 2073558 = false ∧ beyondLimit 0 2073559 = true := by decide

/-- Spec 04 section 4.13, the reading-rate test. -/
theorem test_overRate : overRate 3 17 37 45 = true ∧ overRate 3 17 25 45 = false ∧ overRate 3 17 37 66 = false := by
  decide

/-- Spec 04 section 4.13: 14 characters in 17 bytes on 2 lines. -/
theorem test_characters :
    characters [0xC3, 0x80, 0x20, 0x62, 0x69, 0x65, 0x6E, 0x74, 0xC3, 0xB4, 0x74, 0x0A, 0x4D, 0x65, 0x72, 0x63, 0x69] =
      14 := by decide

/-- Spec 08 section 8.7: AUTO FULL at a target of 2000, a floor of 4096 and a trim of −2. -/
theorem test_fullGain :
    let c := { clips0.settings with fullTarget := 2000, gainFloor := 4096, trim := -2 }
    fullGain c 6400 = 9728 ∧ fullGain c 0 = 32256 ∧ fullGain c 400 = 32256 ∧ fullGain c 32768 = 4096 ∧
      fullFloored c 32768 = true ∧ fullFloored c 6400 = false := by decide

/-- R142: a trim that ends at the floor without a lift is counted, and one that raises a lifted value is not. -/
theorem test_fullFloored :
    fullFloored { clips0.settings with fullTarget := 4608, gainFloor := 4096, trim := -2 } 32768 = true ∧
      fullFloored { clips0.settings with fullTarget := 2000, gainFloor := 4096, trim := 1 } 32768 = false := by decide

/-- Spec 08 section 8.7: the fast decision inside and outside its band. -/
theorem test_fastDecision :
    let c := { clips0.settings with fastThreshold := 5000, fastBand := 1000 }
    fastDecision c 5000 .shallow = .shallow ∧ fastDecision c 6400 .shallow = .deep ∧ fastDecision c 5500 .deep = .deep ∧
      fastDecision c 3900 .deep = .shallow := by decide

/-- Spec 08 section 8.6, its last row: the meter across a gap. -/
theorem test_meterGap :
    let m : Meter := ⟨(List.range 10).map fun j => (j, 61440000), 10, 30720000, .shallow⟩
    (m.advanced 62400).level = 4800 ∧ (m.advanced 62400).block = 13 ∧
      (m.advanced 62400).history.head? = some (3, 61440000) := by decide

/-- A clip of the tests: track 5, positions 0 to 8. -/
def clip0 : ClipEntry :=
  ⟨5, 0, 77, 0, 8, 0, 0x60000, 32768, .fixed, 16384, none, false, false, .waiting, true⟩

/-- Spec 08 section 8.8, clip A. -/
theorem test_envelope :
    let a := { clip0 with start := 480000, stop := 576000, lead := 12000 }
    envelope a 24000 9728 468000 = 32768 ∧ envelope a 24000 9728 474000 = 21248 ∧ envelope a 24000 9728 500000 = 9728 ∧
      envelope a 24000 9728 582000 = 15488 ∧ envelope a 24000 9728 594000 = 27008 ∧
      envelope a 24000 9728 600000 = 32768 := by decide

/-- Spec 09 section 9.9, position mapping. -/
theorem test_mapFirst :
    mapFirst 65536 200000 3392 = 200000 ∧ mapFirst 65536 200000 4000 = 200608 ∧ mapFirst 65536 200000 3000 = 199608 ∧
      mapFirst 65536 200000 35000 = 231608 ∧ mapFirst 65536 200000 40000 = 171072 := by decide

/-- Spec 09 section 9.9, the mix of one frame. -/
theorem test_mix :
    mixValue 20000 8192 (-15000) 29205 = -8369 ∧ mixValue 20000 32768 0 0 = 20000 ∧
      limitSample (mixValue 30000 32768 20000 32768) = 32767 ∧
      limitSample (mixValue (-32768) 32768 (-32768) 32768) = -32768 ∧ mixValue (-1) 16384 0 0 = 0 := by decide

/-- Spec 07 section 7.8, the capture of X: its own shift and the cascade that moves B and leaves D. -/
theorem test_cascade :
    let clip (s e : Nat) : ClipEntry := { clip0 with start := s, stop := e }
    placeClip [(0, clip 480000 576000), (1, clip 600000 648000), (2, clip 700000 796000)] (clip 566400 638400) 24000 =
      .placed ((clip 566400 638400).movedTo 576000) [(1, (clip 600000 648000).movedTo 648000)] := by decide

/-- Spec 05 section 5.12: E's candidates, with its anchor row 14 clamped to 13. -/
theorem test_candidates : (candidateRows 2 14 3).take 4 = [13, 12, 11, 10] ∧ (candidateRows 0 0 1).head? = some 15 ∧
    (candidateRows 1 0 1).head? = some 0 := by decide

/-! ## One step of each command -/

theorem test_resetAssert : (after .resetAssert dev1).resetN = false ∧ (after .resetAssert dev1).reports.ring = none := by
  decide

theorem test_resetRelease :
    (after (.resetRelease 1) (after .resetAssert dev1)).lookup 0x1000040 = some ⟨0, controlWindow 1⟩ := by decide

/-- A full beat. -/
def full (w : Word) : Beat := ⟨w, 255⟩

theorem test_directiveCaptured :
    (after (.upstreamWrite 1 0x1000040 (full 0x0511 :: List.replicate 7 (full 0))) dev0).engine.queue =
      [⟨⟨0x11, 5, 0, 0, 0, 1, 0⟩, true⟩] := by decide

theorem test_partialWrite : (after (.upstreamWrite 1 0x1000000 [full 0]) dev0).engine.partialWrites = 1 := by decide

theorem test_readIsPresented : (after (.upstreamRead 3 0x70000 2) dev0).presented = some (.read 0) := by decide

theorem test_grantIssuesTheRead :
    (after .memoryGrant (after (.upstreamRead 3 0x70000 2) dev0)).ports = [.issueRead 7 .throughPath 0x70000 2] := by
  decide

/-- A device with one burst outstanding under identifier 7. -/
def waiting (d : Device) (p : Purpose) (addr : Addr) (count : Nat) : Device :=
  { d with outstanding := [⟨7, p, addr, count⟩] }

theorem test_readAnswered :
    (after (.throughReadResponse 7 .ok [5]) (waiting dev0 (.throughRead 3 none) 0 1)).ports = [.answerRead 3 .ok [5]] := by
  decide

theorem test_writeAnswered :
    (after (.throughWriteResponse 7 .error) (waiting dev0 (.throughWrite 3) 0 1)).ports = [.answerWrite 3 .error] := by
  decide

/-- The burst of a description lane in slot 5: two beats of zero samples at ring frame 0. -/
def mixWrite : Instr := .upstreamWrite 4 0x100000 [full 0x0000000000010002, full 0]

/-- A DESCRIPTION track with one clip on its schedule. -/
def devClip (st : TrackState) (x : ClipTrack) : Device :=
  { devClips st x with clipPool := (Vector.replicate 64 none).set 0 (some clip0) }

/-- The device that holds the burst, its samples not staged. -/
def devHeld : Device := after mixWrite (devClip .running clips0)

theorem test_mixWriteHeld :
    ((devHeld.track 5).clips.bind ClipTrack.held) = some ⟨0, 4⟩ ∧ devHeld.writeQueue.map QueuedWrite.status = [.held] := by
  decide

/-- At the expiry the programme samples 2 and 1 leave at half gain, rounded, with no description, and the underrun is counted. -/
theorem test_holdExpiry :
    (after .holdTimerExpiry devHeld).writeQueue.map QueuedWrite.beats = [[full 0x10001, full 0]] ∧
      ((after .holdTimerExpiry devHeld).track 5).clips.map ClipTrack.underruns = some 1 := by decide +kernel

/-- A lane with a live read of its clip's eight samples. -/
def devFetch : Device :=
  waiting (devClip .running { clips0 with reads := [⟨7, 0, 0, 8, false⟩] }) (.samples 0) 0x60000 2

theorem test_samplesStaged :
    (((after (.prefetchResponse 7 .ok [0x0004000300020001, 0]) devFetch).track 5).clips.map
      fun x => (x.staged.map StagedSample.value).take 4) = some [1, 2, 3, 4] := by decide

/-- A slot 2 that waits for its descriptor. -/
def devLoading : Device :=
  waiting
    (dev1.setTrack 2
      { TrackContext.freeContext with
        state := .loading
        opening := some (directive 1 2 0x8000 0 0)
        descriptorAddr := some 0x8000 })
    (.descriptor 2 9) 0x8000 16

/-- The descriptor of a TEXT track: the settings of `text0`. -/
def textDescriptor : List Word :=
  [0x0201, 0x20000, 0x0000400000001000, 0x30000, 4, 0, 0x2A0F1902000A0032, 0] ++ List.replicate 8 0

/-- The descriptor of a DESCRIPTION track: the settings of `clips0`. -/
def clipDescriptor : List Word :=
  [0x0202, 0x40000, 0x0001000000001000, 0x100000, 4, 0, 0x8000200003E801F4, 0x200001F40FA00001, 0x00C810000BB84000] ++
    List.replicate 7 0

theorem test_textOpened :
    (after (.descriptorResponse 7 .ok textDescriptor) devLoading).track 2 =
      { devLoading.track 2 with state := .running, body := .text text0 } := by decide

theorem test_clipsOpened :
    ((after (.descriptorResponse 7 .ok clipDescriptor) devLoading).track 2).clips = some clips0 := by decide

/-- A record of segment 0 in slot 2 whose trailer is outstanding. -/
def record0 : SegmentRecord := ⟨2, 0, 0, 96000, [], 0, false, false⟩

/-- A TEXT track that waits for an answer to a burst of its record. -/
def devRecord (answered : Nat) : Device :=
  waiting
    (devText .running
      { text0 with
        next := 1
        openStart := 50
        slots := .writing :: List.replicate 15 .empty
        records := [record0]
        flight := some ⟨9, answered, [7]⟩ })
    (.record 2) 0x30000 1

theorem test_recordWritten :
    ((after (.recordWriteResponse 7 .ok) (devRecord 8)).track 2).text.map (fun x => (x.slots.take 2, x.records)) =
      some ([.written, .empty], []) := by decide

theorem test_recordError : ((after (.recordWriteResponse 7 .error) (devRecord 8)).track 2).state = .faulted := by decide

/-- A report of the tests. -/
def report0 : Report := .trackResumed 2 .auto 6

/-- A device with a queued report. -/
def devReport : Device := { dev1 with reports := { dev1.reports with queue := [report0] } }

/-- A device whose report in writing is at a stage. -/
def devWriting (g : ReportStage) : Device :=
  waiting
    { dev1 with
      reports :=
        ⟨some { ring0 with slots := .writing :: List.replicate 63 .empty }, [], some ⟨report0, 0, 3, g⟩, 0⟩ }
    .report 0x10000 1

theorem test_reportBegin :
    (after .reportBegin devReport).reports.writing = some ⟨report0, 0, 3, .bodyPresented⟩ := by decide

theorem test_reportWritten :
    (after (.reportWriteResponse 7 .ok) (devWriting (.trailerGranted 7))).attn = true ∧
      ((after (.reportWriteResponse 7 .ok) (devWriting (.trailerGranted 7))).reports.ring.map ReportRing.written) = some 1 := by
  decide

theorem test_reportTrailer :
    (devWriting .trailerPresented).reports.burst = some (0x10038, [full 0x3C96E1A5]) := by decide

theorem test_openTrack :
    ((after .openTrack (asked dev1 (directive 1 2 0x8000 0 0))).track 2).state = .loading := by decide

theorem test_closeText :
    ((after .closeTrack (asked (devText .running text0) (directive 2 2 0 0 0))).track 2).text.map
      (fun x => (x.drainEnd, x.next, x.records.map SegmentRecord.final)) = some (some 1, 1, [true]) := by decide

/-- FLUSH TRACK to 00:00:04:00, frame 100, closes segments 0 and 1. -/
theorem test_flush :
    ((after .flushTrack (asked (devText .running text0) (directive 3 2 0x00000400 0 0))).track 2).text.map
      (fun x => (x.flushFrame, x.next, x.openStart)) = some (some 100, 2, 100) := by decide

theorem test_abort :
    (after .abortTrack (asked (devText .running text0) (directive 4 2 0 0 0))).track 2 = TrackContext.freeContext := by
  decide

theorem test_retune :
    ((after .retuneTrack (asked (devText .running text0) (directive 5 2 60 700 0x0201))).track 2).text.bind
      TextTrack.pendingRetune = some ⟨60, 600, .lock, .shift⟩ := by decide

/-- A STALLED track whose waiting close finds an EMPTY slot. -/
def stalled0 : TextTrack :=
  { text0 with
    next := 16
    openStart := 800
    consume := 1
    horizon := some 870
    slots := .empty :: List.replicate 15 .written
    waitingClose := true }

theorem test_resume :
    ((after .resumeTrack (asked (devText .stalled stalled0) (directive 6 2 0 0 0))).track 2).text.map TextTrack.next =
      some 17 := by decide

/-- A STALLED track with an ACTIVE cue of bad parity. -/
def devBadCue (st : TrackState) (x : TextTrack) : Device :=
  { devText st x with cuePool := (Vector.replicate 256 none).set 3 (some ⟨2, 31, 7, 0, 30, 14, 1, 0, CueFlags.noFlags, 0, .active, false⟩) }

/-- R112: RESUME TRACK whose close reads a damaged cue leaves the track STALLED, which BYPASS ENTERED lists, without TRACK RESUMED. -/
theorem test_resumeDamaged :
    (after .resumeTrack (asked (devBadCue .stalled stalled0) (directive 6 2 0 0 0))).reports.queue =
      [.bypassEntered ⟨.cue, false, some .cue, 3, (List.replicate 16 .free).set 2 .stalled, 0, 0⟩] := by decide

theorem test_setReportRing :
    (after .setReportRing (asked dev0 (directive 0x10 0 0x10000 4 0))).reports.ring = some ring0 := by decide

theorem test_clearBypass :
    (after .clearBypass (asked { dev1 with engine := ⟨[], none, .bypass, 0, 0⟩ } (directive 0x11 0 0 0 0))).engine.mode =
      .normal := by decide

theorem test_unknown :
    (after .unknownDirective (asked dev1 (directive 0x12 0 0 0 0))).reports.queue =
      [.directiveRefused none .unknown (directive 0x12 0 0 0 0) 0] := by decide

theorem test_step_takesTheFront : step ⟨[.resetAssert, .memoryGrant], dev0⟩ = exec .resetAssert ⟨[.memoryGrant], dev0⟩ := rfl

/-! ## States that meet the hypotheses of the statements, one theorem a statement -/

/-- A queued write of one beat, ready. -/
def write0 : QueuedWrite := ⟨8, 0x70000, [full 1], [full 1], none, 0, .ready⟩

/-- A device with a full write queue. -/
def devFull : Device := { dev0 with writeQueue := write0 :: List.replicate 15 { write0 with status := .waiting } }

theorem witness_ResetDropsAndReleases :
    (after .resetAssert dev1).resetN = false ∧ Instr.wellFormed .memoryGrant = true ∧ dev1.resetN = true ∧
      dev1.outstandingOf 7 = none := by decide

theorem witness_UnmatchedBurstsAreForwarded :
    (Awake dev0 ∧ burstOk 0x70FF8 1 = true ∧ dev0.damagedWindows = [] ∧ dev0.lookup 0x70FF8 = none ∧
      dev0.writeQueue.length < 16) ∧
    (Awake devFull ∧ devFull.damagedWindows = [] ∧ devFull.lookup 0x70FF8 = none ∧ ¬devFull.writeQueue.length < 16) := by
  unfold Awake; decide

/-- A cue of the tests: track 2, intake slot 31, frames 0 to 30. -/
def cue0 : CueEntry := ⟨2, 31, 7, 0, 30, 14, 1, 0, CueFlags.noFlags, 0, .active, true⟩

/-- A TEXT track that holds its last intake slot. -/
def devCue (st : TrackState) (x : TextTrack) : Device :=
  { devText st x with cuePool := (Vector.replicate 256 none).set 0 (some cue0) }

/-- A device in BYPASS. -/
def devBypass : Device := { dev1 with engine := { dev1.engine with mode := .bypass } }

theorem witness_FencedWriteIsAnsweredError :
    (Awake devBypass ∧ burstOk 0x10000 1 = true ∧ devBypass.damagedWindows = [] ∧ devBypass.engine.mode = .bypass) ∧
    (Awake (devCue .running text0) ∧ (devCue .running text0).damagedWindows = [] ∧
      (devCue .running text0).lookup 0x33FF8 = some ⟨7, ⟨0x30000, 16384, .index, some 2⟩⟩ ∧
      (devCue .running text0).lookup 0x10000 = some ⟨1, ⟨0x10000, 4096, .report, none⟩⟩ ∧
      (devCue .running text0).lookup 0x20F78 = some ⟨6, ⟨0x20000, 4096, .textIntake, some 2⟩⟩ ∧
      (devCue .running text0).slotHeld 2 31 = true ∧ 128 * 31 < 0xF78 + 8 * 2 ∧ 0xF78 < 128 * (31 + 1) ∧
      ∀ k < 31, 0xF78 < 128 * (k + 1) → (devCue .running text0).slotHeld 2 k = false) := by
  unfold Awake; decide

/-- A directive queue of this many entries. -/
def devQueue (n : Nat) : Device :=
  { dev0 with engine := { dev0.engine with queue := List.replicate n ⟨directive 4 2 0 0 0, true⟩ } }

/-- The beats of a directive record. -/
def record8 : List Beat := List.replicate 8 (full 0)

theorem witness_ControlWindowWritesAreCaptured :
    (Awake (devQueue 7) ∧ burstOk 0x1000FC0 record8.length = true ∧ (devQueue 7).damagedWindows = [] ∧
      (devQueue 7).lookup 0x1000FC0 = some ⟨0, controlWindow 1⟩ ∧
      wholeRecord 64 (controlWindow 1).base 0x1000FC0 record8 = true ∧ (devQueue 7).engine.queue.length < 8) ∧
    (Awake (devQueue 8) ∧ (devQueue 8).damagedWindows = [] ∧
      (devQueue 8).lookup 0x1000FC0 = some ⟨0, controlWindow 1⟩ ∧ 8 ≤ (devQueue 8).engine.queue.length) := by
  unfold Awake; decide

theorem witness_ControlWindowWritesAreCaptured_partial :
    Awake dev0 ∧ burstOk 0x1000FF8 1 = true ∧ dev0.lookup 0x1000FF8 = some ⟨0, controlWindow 1⟩ ∧
      wholeRecord 64 (controlWindow 1).base 0x1000FF8 [full 0] = false := by unfold Awake; decide

theorem witness_BypassForwardsEveryWrite :
    Awake devBypass ∧ burstOk 0x1000000 8 = true ∧ devBypass.writeQueue.length < 16 ∧ devBypass.engine.mode = .bypass ∧
      devBypass.damagedWindows = [] := by unfold Awake; decide

/-- A listed read of two beats. -/
def read0 (arrival : Nat) : QueuedRead := ⟨3, 0x70000, 2, none, arrival⟩

theorem witness_ReadJoinsTheReadList :
    (dev0.resetN = true ∧ burstOk 0x70000 16 = true ∧ dev0.damagedWindows = [] ∧ dev0.readList.length < 16) ∧
    16 ≤ ({ dev0 with readList := List.replicate 16 (read0 0) }).readList.length ∧
    (∀ w ∈ devFull.writeQueue, w.beats ≠ []) ∧ devFull.readClear 1 0x70000 1 = false ∧
      devFull.readClear 0 0x70000 1 = true := by decide

/-- A device with a ready write and two listed reads, the second eligible. -/
def devWaiting : Device := { dev0 with writeQueue := [write0], readList := [read0 1, { read0 2 with addr := 0x71000 }] }

theorem witness_OldestWaitingBurstIsPresented :
    devWaiting.readList.Pairwise (fun a b => a.arrival < b.arrival) ∧ devWaiting.presented = none ∧
      devWaiting.settle.presented = some .write ∧
      ({ devWaiting with writeQueue := [] }).settle.presented = some (.read 1) ∧ dev0.settle.presented = none := by
  decide

theorem witness_UnmatchedBurstsAreForwarded_response :
    Answering (waiting dev0 (.throughWrite 3) 0 1) 7 ⟨7, .throughWrite 3, 0, 1⟩ (.throughWrite 3) ∧
      Answering (waiting dev0 (.throughRead 3 none) 0 1) 7 ⟨7, .throughRead 3 none, 0, 1⟩ (.throughRead 3 none) ∧
      [(5 : Word)].length = 1 := by unfold Answering; decide

/-- A device with 32 bursts outstanding. -/
def devBusy : Device := { dev0 with outstanding := List.replicate 32 ⟨6, .report, 0, 1⟩ }

/-- A device whose ready write is presented, with own traffic waiting and this grant count. -/
def devRanked (n : Nat) : Device :=
  { devWriting .bodyPresented with
    outstanding := []
    writeQueue := [write0]
    presented := some .write
    arbiter := ⟨n, 0, 0, 0⟩ }

theorem witness_GrantsGoByRank :
    devBusy.resetN = true ∧ 32 ≤ devBusy.outstanding.length ∧ (devRanked 7).arbiter.grantCount < 8 ∧
      (devRanked 7).winner = some .throughPath ∧ dev0.ownWaiting = false ∧ dev0.winner = none := by decide

theorem witness_GrantCountBoundsTheThroughPath :
    (devRanked 7).resetN = true ∧ (devRanked 7).outstanding.length < 32 ∧ (devRanked 7).winner = some .throughPath ∧
      (devRanked 8).arbiter.grantCount = 8 ∧ (devRanked 8).ownWaiting = true ∧
      (devRanked 8).winner = some .reportWriter := by decide

theorem witness_GrantIssuesItsBurst :
    ((devRanked 0).resetN = true ∧ (devRanked 0).outstanding.length < 32 ∧ (devRanked 0).winner = some .throughPath ∧
      (devRanked 0).presented = some .write ∧ (devRanked 0).writeQueue = [write0] ∧ write0.status = .ready) ∧
    (({ devWaiting with presented := some (.read 1) }).winner = some .throughPath ∧
      devWaiting.readList.find? (fun q => q.arrival == (read0 1).arrival) = some (read0 1)) := by decide

theorem witness_GrantIssuesItsBurst_own :
    (({ devRecord 8 with outstanding := [] }).setText 2
        { text0 with records := [record0], flight := some ⟨8, 8, []⟩ }).winner = some .recordWriter ∧
    (({ devRecord 8 with outstanding := [] }).setText 2
        { text0 with records := [record0], flight := some ⟨8, 8, []⟩ }).recordSlot = some 2 ∧
    (after .openTrack (asked dev1 (directive 1 2 0x8000 0 0))).winner = some .descriptorReads ∧
    (after .openTrack (asked dev1 (directive 1 2 0x8000 0 0))).descriptorSlot = some 2 ∧
    (after .openTrack (asked dev1 (directive 1 2 0x8000 0 0))).descriptorRead 2 =
      some (directive 1 2 0x8000 0 0, 0x8000) ∧
    ({ devWriting .bodyPresented with outstanding := [] }).winner = some .reportWriter := by decide

/-- The clip's lane with its request made. -/
def devRequest : Device := (devClip .running clips0).laneRefresh 5

theorem witness_GrantIssuesItsBurst_prefetch :
    (devHeld.winner = some .urgentPrefetch ∧ devHeld.urgentLane = some 0 ∧
      (devHeld.laneRequest 0).map (fun q => q.2.2) = some ⟨0, 0, 8, 0x60000, 2, 1⟩) ∧
    (devRequest.winner = some .ordinaryPrefetch ∧ devRequest.ordinaryLane = some 0 ∧
      (devRequest.laneRequest 0).map (fun q => q.2.2) = some ⟨0, 0, 8, 0x60000, 2, 0⟩) ∧
    ∀ q ∈ devRequest.trackClips 5, q.2.parityOk = true := by decide

theorem witness_EngineChecksAndClearsBypass :
    Taking (asked dev1 (directive 0x12 0 0 0 0)) .unknown (directive 0x12 0 0 0 0) [] ∧
      Taking (asked devBypass (directive 4 2 0 0 0)) .abortTrack (directive 4 2 0 0 0) [] ∧
      Taking (asked dev1 (directive 4 16 0 0 0)) .abortTrack (directive 4 16 0 0 0) [] ∧
      (DirectiveKind.abortTrack, Instr.abortTrack) ∈ trackCommands ∧ 15 < (directive 4 16 0 0 0).slotField.toNat := by
  unfold Taking; decide

theorem witness_DamagedDirectiveEntersBypass :
    ({ dev1 with engine := { dev1.engine with queue := [⟨directive 4 2 0 0 0, false⟩] } }).engine.queue =
        ⟨directive 4 2 0 0 0, false⟩ :: [] ∧
      dev1.resetN = true ∧ dev1.engine.current = none ∧ directiveKind (directive 4 2 0 0 0).kind = .abortTrack ∧
      (DirectiveKind.abortTrack, Instr.abortTrack) ∈ directiveCommands ∧ dev1.engine.mode = .normal := by decide

/-- A device with a damaged window entry. -/
def devBadWindow (i : EntryNo) (mode : Mode) : Device :=
  { dev1 with
    windows := dev1.windows.set i.val (dev1.windows[i.val].map fun e => { e with parityOk := false })
    engine := { dev1.engine with mode := mode } }

/-- A clip of bad parity on the schedule of slot 5. -/
def devBadClip : Device :=
  { devClips .running clips0 with clipPool := (Vector.replicate 64 none).set 2 (some { clip0 with parityOk := false }) }

theorem witness_ParityErrorsAreTold :
    (Awake (devBadWindow 1 .normal) ∧ (devBadWindow 1 .normal).damagedWindows = [1] ∧ burstOk 0x10000 1 = true ∧
      Awake (devBadWindow 0 .bypass) ∧ (devBadWindow 0 .bypass).damagedWindows = [0]) ∧
    (Taking (asked (dev1.setTrack 2 { TrackContext.freeContext with parityOk := false }) (directive 4 2 0 0 0)) .abortTrack
        (directive 4 2 0 0 0) [] ∧ slotOfField (directive 4 2 0 0 0).slotField = some 2) ∧
    (TakingFor (asked (devBadCue .stalled stalled0) (directive 6 2 0 0 0)) .resumeTrack (directive 6 2 0 0 0) [] 2 ∧
      ((devBadCue .stalled stalled0).cue 3).map CueEntry.parityOk = some false ∧ (∀ j < 3, (devBadCue .stalled stalled0).cue j = none) ∧
      stalled0.slotOf stalled0.next = some .empty ∧ stalled0.due .running = true) := by
  unfold Awake TakingFor Taking; decide

theorem witness_ParityErrorsAreTold_lane :
    (Writing devBadClip 0x100000 [full 1] ⟨13, ⟨0x100000, 65536, .mix, some 5⟩⟩ ∧ devBadClip.writeQueue = [] ∧
      isRevisit clips0.cursor 2 (mapFirst clips0.settings.ringFrames clips0.cursor (clips0.settings.firstFrame 0x100000)) =
        false ∧
      (devBadClip.clip 2).map ClipEntry.parityOk = some false ∧ ∀ j < 2, devBadClip.clip j = none) ∧
    ({ clips0 with staged := [⟨0, 3, 9, false, false⟩] }).staged.find? (fun v : StagedSample => v.clip == 0 && v.index == 3 - 0) =
      some ⟨0, 3, 9, false, false⟩ ∧
    ({ devBypass with engine := { devBypass.engine with queue := [⟨directive 4 2 0 0 0, false⟩] } }).engine.mode = .bypass := by
  unfold Writing; decide

theorem witness_EngineChecksAndClearsBypass_clear :
    Taking (asked devBypass (directive 0x11 0 0 0 0)) .clearBypass (directive 0x11 0 0 0 0) [] ∧
      Taking (asked dev1 (directive 0x11 0 0 0 0)) .clearBypass (directive 0x11 0 0 0 0) [] ∧
      devBypass.engine.mode = .bypass ∧ dev1.engine.mode = .normal := by unfold Taking; decide

/-- A SET REPORT RING of 4 KiB at an address. -/
def setRing (a : Word) : Directive := directive 0x10 0 a 4 0

theorem witness_SetReportRingChecksThenSwitches :
    (Taking (asked dev0 (setRing 0x10800)) .setReportRing (setRing 0x10800) [] ∧
      ((setRing 0x10800).operand1.truncate 40 : Addr).toNat % 4096 ≠ 0) ∧
    (Taking (asked (devWriting .bodyPresented) (setRing 0xFFFFFFF000)) .setReportRing (setRing 0xFFFFFFF000) [] ∧
      ((setRing 0xFFFFFFF000).operand1.truncate 40 : Addr).toNat + 1024 * 4 ≤ 2 ^ 40 ∧
      (devWriting .bodyPresented).reports.writing.isSome = true) ∧
    (Taking (asked dev0 (setRing 0x1000000)) .setReportRing (setRing 0x1000000) [] ∧
      liveWindow dev0 0 = some (controlWindow 1) ∧ rangesOverlap 0x1000000 4096 0x1000000 4096 = true) ∧
    (Taking (asked dev0 (setRing 0x1001000)) .setReportRing (setRing 0x1001000) [] ∧ dev0.reports.writing = none ∧
      ∀ i : EntryNo, ∀ w ∈ liveWindow dev0 i, i ≠ 1 → rangesOverlap 0x1001000 4096 w.base.toNat w.size = false) := by
  unfold Taking; decide

theorem witness_OpenTrackRequestsTheDescriptor :
    TakingFor (asked dev1 (directive 1 15 0x8080 0 0)) .openTrack (directive 1 15 0x8080 0 0) [] 15 ∧
      TakingFor (asked dev1 (directive 1 0 0x8040 0 0)) .openTrack (directive 1 0 0x8040 0 0) [] 0 ∧
      TakingFor (asked (devText .running text0) (directive 1 2 0 0 0)) .openTrack (directive 1 2 0 0 0) [] 2 ∧
      (dev1.track 15).state = .free ∧ (0x8080 : Addr).toNat % 128 = 0 ∧ (0x8040 : Addr).toNat % 128 ≠ 0 ∧
      ((devText .running text0).track 2).state ≠ .free := by unfold TakingFor Taking; decide

theorem witness_CloseTrackDrainsDescription :
    TakingFor (asked (devClip .degraded clips0) (directive 2 5 0 0 0)) .closeTrack (directive 2 5 0 0 0) [] 5 ∧
      TakingFor (asked (devClips .running clips0) (directive 2 5 0 0 0)) .closeTrack (directive 2 5 0 0 0) [] 5 ∧
      ((devClip .degraded clips0).track 5).body = .description clips0 ∧ (devClip .degraded clips0).trackClips 5 ≠ [] ∧
      (devClips .running clips0).trackClips 5 = [] ∧
      TakingFor (asked dev1 (directive 2 5 0 0 0)) .closeTrack (directive 2 5 0 0 0) [] 5 := by
  unfold TakingFor Taking; decide

theorem witness_CloseTrackDrainsText :
    TakingFor (asked (devCue .stalled stalled0) (directive 2 2 0 0 0)) .closeTrack (directive 2 2 0 0 0) [] 2 ∧
      ((devCue .stalled stalled0).track 2).body = .text stalled0 ∧
      ∀ q ∈ (devCue .stalled stalled0).trackCues 2, q.2.status = .active → q.2.parityOk = true := by
  unfold TakingFor Taking; decide

theorem witness_FlushTrackClosesSegments :
    TakingFor (asked (devCue .running text0) (directive 3 2 0x173B3B18 0 0)) .flushTrack (directive 3 2 0x173B3B18 0 0) [] 2 ∧
      TakingFor (asked (devCue .stalled stalled0) (directive 3 2 0x173B3B19 0 0)) .flushTrack
        (directive 3 2 0x173B3B19 0 0) [] 2 ∧
      (directive 3 2 0x173B3B18 0 0).flushTimecode = ⟨23, 59, 59, 24⟩ ∧ (rateOf 2).nominal = 25 ∧
      ticks 2 (Timecode.frames 2 false ⟨23, 59, 58, 0⟩) ≤ 4151263199 ∧
      textRefusal (context .draining (.text text0)) [.draining, .faulted] .state := by
  refine ⟨by unfold TakingFor Taking; decide, by unfold TakingFor Taking; decide, by decide, by decide, by decide, ?_⟩
  exact .inr (.inr (.inr ⟨by decide, ⟨text0, rfl⟩, rfl⟩))

theorem witness_AbortTrackFreesTheSlot :
    TakingFor (asked (devText .running text0) (directive 4 2 0 0 0)) .abortTrack (directive 4 2 0 0 0) [] 2 ∧
      ((devText .running text0).track 2).state ≠ .free ∧
      TakingFor (asked dev1 (directive 4 2 0 0 0)) .abortTrack (directive 4 2 0 0 0) [] 2 := by
  unfold TakingFor Taking; decide

theorem witness_RetuneTrackIsPending :
    TakingFor (asked (devText .running text0) (directive 5 2 600 700 0x0201)) .retuneTrack (directive 5 2 600 700 0x0201) [] 2 ∧
      TakingFor (asked (devText .running text0) (directive 5 2 601 0 0)) .retuneTrack (directive 5 2 601 0 0) [] 2 ∧
      ((devText .running text0).track 2).body = .text text0 ∧
      textRefusal (context .running (.description clips0)) [.draining, .faulted] .wrongKind := by
  refine ⟨by unfold TakingFor Taking; decide, by unfold TakingFor Taking; decide, rfl, ?_⟩
  exact .inr (.inr (.inl ⟨by decide, by decide, ⟨clips0, rfl⟩, rfl⟩))

theorem witness_ResumeTrackMakesTheWaitingClose :
    TakingFor (asked (devCue .stalled stalled0) (directive 6 2 0 0 0)) .resumeTrack (directive 6 2 0 0 0) [] 2 ∧
      ((devCue .stalled stalled0).track 2).body = .text stalled0 ∧ stalled0.slotOf stalled0.next = some .empty ∧
      stalled0.due .running = true ∧
      (∀ q ∈ (devCue .stalled stalled0).trackCues 2, q.2.status = .active → q.2.parityOk = true) ∧
      .empty ∉ ({ stalled0 with slots := List.replicate 16 .written }).slots := by
  unfold TakingFor Taking; decide

/-- The outstanding burst of `devLoading`. -/
def fetch0 : Outstanding := ⟨7, .descriptor 2 9, 0x8000, 16⟩

theorem witness_DescriptorRefusalsComeInOrder :
    Answering devLoading 7 fetch0 (.descriptor 2 9) ∧ (devLoading.track 2).parityOk = true ∧
      (List.replicate 16 (0 : Word)).length = fetch0.count ∧ (devLoading.track 2).state = .loading ∧
      (devLoading.track 2).opening = some (directive 1 2 0x8000 0 0) ∧
      (∃ after, descriptorChecks devLoading (dataBytes (List.replicate 16 0)) =
        [] ++ (.badKind, field (dataBytes (List.replicate 16 0)) 0 1 ≠ 1 ∧
          field (dataBytes (List.replicate 16 0)) 0 1 ≠ 2) :: after) ∧
      field (dataBytes (List.replicate 16 0)) 0 1 ≠ 1 ∧ field (dataBytes (List.replicate 16 0)) 0 1 ≠ 2 ∧
      ((waiting dev1 (.descriptor 2 9) 0x8000 16).track 2).state = .free := by
  refine ⟨by unfold Answering; decide, by decide, by decide, by decide, by decide, ⟨_, rfl⟩, by decide, by decide, by decide⟩

/-- No live window of `devLoading` lies where the tests' descriptors put their rings. -/
theorem apart (base : Addr) (size : Nat)
    (h : ∀ i : EntryNo, ∀ e ∈ devLoading.windows[i.val],
      ¬(base.toNat < e.window.base.toNat + e.window.size ∧ e.window.base.toNat < base.toNat + size)) :
    ¬meetsWindow devLoading base size :=
  fun ⟨i, e, he, h1, h2⟩ => h i e (by simpa using he) ⟨h1, h2⟩

theorem witness_TextDescriptorIsTaken :
    Answering devLoading 7 fetch0 (.descriptor 2 (directive 1 2 0x8000 0 0).capture) ∧
      textDescriptor.length = fetch0.count ∧ field (dataBytes textDescriptor) 0 1 = 1 ∧
      ∀ q ∈ descriptorChecks devLoading (dataBytes textDescriptor), ¬q.2 := by
  refine ⟨by unfold Answering; decide, by decide, by decide, ?_⟩
  simp only [descriptorChecks, List.forall_mem_cons, List.not_mem_nil, false_imp_iff, implies_true, and_true]
  refine ⟨by decide, by decide, by decide, by decide, by decide, by unfold misplaced; decide, by decide,
    fun h => absurd h.1 (by decide), ?_⟩
  rintro (h | h | h)
  · exact apart _ _ (by decide) h
  · exact apart _ _ (by decide) h
  · revert h; decide

theorem witness_DescriptionDescriptorIsTaken :
    Answering devLoading 7 fetch0 (.descriptor 2 (directive 1 2 0x8000 0 0).capture) ∧
      clipDescriptor.length = fetch0.count ∧ field (dataBytes clipDescriptor) 0 1 = 2 ∧
      ∀ q ∈ descriptorChecks devLoading (dataBytes clipDescriptor), ¬q.2 := by
  refine ⟨by unfold Answering; decide, by decide, by decide, ?_⟩
  simp only [descriptorChecks, List.forall_mem_cons, List.not_mem_nil, false_imp_iff, implies_true, and_true]
  refine ⟨by decide, by decide, by decide, by decide, by decide, by unfold misplaced; decide, by decide, ?_, ?_⟩
  · rintro ⟨-, h⟩
    obtain ⟨t, x, hx, -⟩ := h 0
    have none_ : ∀ t : Slot, (devLoading.track t).clips = none := by decide
    rw [none_ t] at hx
    cases hx
  · rintro (h | h | h)
    · exact apart _ _ (by decide) h
    · exact apart _ _ (by decide) h
    · revert h; decide

theorem witness_SegmentRecordIsAssembled :
    text0.settings.rate.code ≤ 7 ∧
      ((assemble 2 .running text0 [cue0]).fragments.map fun f => (f.startOffset, f.endOffset)) = [(0, 57600)] := by
  decide

/-- A track whose flush frame ends its second segment, with a pending retune to 30 frames: the closes end at frames 50, 80, 110. -/
def devDue : Device :=
  devCue .running { text0 with flushFrame := some 110, pendingRetune := some ⟨30, 5, .lock, .drop⟩ }

/-- The close decision claims three slots, retires the cue that ends at frame 30 with record 0, and takes the retune. -/
theorem witness_SegmentRecordIsAssembled_closes :
    (∀ q ∈ devDue.trackCues 2, q.2.status = .active → q.2.parityOk = true) ∧
      ((devDue.decideClose 2 dev0).cue 0).map CueEntry.status = some (.retired 0) ∧
      ((devDue.decideClose 2 dev0).track 2).text.map
        (fun x => (x.next, x.openStart, x.openLength, x.slots.take 4)) =
        some (3, 110, 30, [.writing, .writing, .writing, .empty]) ∧
      ((devDue.decideClose 2 dev0).track 2).text.map (fun x => (x.tuning.reorder, x.pendingRetune.isNone)) =
        some (5, true) ∧
      (assemble 2 .draining { text0 with drainEnd := some 50 } [cue0]).final = true ∧
      (assemble 2 .draining { text0 with drainEnd := some 51 } [cue0]).final = false := by decide +kernel

theorem witness_RecordBurstAnswersAreTaken :
    Answering (devRecord 8) 7 ⟨7, .record 2, 0x30000, 1⟩ (.record 2) ∧ ((devRecord 8).track 2).parityOk = true ∧
      Answering (devRecord 7) 7 ⟨7, .record 2, 0x30000, 1⟩ (.record 2) ∧ (7 : Nat) ∈ [7] ∧
      Answering (waiting (devText .running text0) (.record 2) 0 1) 7 ⟨7, .record 2, 0, 1⟩ (.record 2) ∧
      text0.flight = none := by unfold Answering; decide

theorem witness_RecordBurstAnswersAreTaken_error :
    Answering (devRecord 0) 7 ⟨7, .record 2, 0x30000, 1⟩ (.record 2) ∧
      ((devRecord 0).track 2).text.bind TextTrack.flight = some ⟨9, 0, [7]⟩ ∧ (7 : Nat) ∈ [7] := by
  unfold Answering; decide

/-- The index window of slot 2. -/
def indexMatch : WindowMatch := ⟨7, ⟨0x30000, 16384, .index, some 2⟩⟩

/-- A TEXT track whose consume point stands at index slot 15, segments 15 and 16 unread, and a read of a trailer beat. -/
def devIndex (addr : Addr) : Device :=
  waiting
    (devText .running
      { text0 with
        next := 18
        openStart := 900
        consume := 15
        slots := .consumed :: .writing :: List.replicate 13 .empty ++ [.written] })
    (.throughRead 3 (some indexMatch)) addr 1

theorem witness_IndexTrailerReadConsumes :
    Answering (devIndex 0x33FF8) 7 ⟨7, .throughRead 3 (some indexMatch), 0x33FF8, 1⟩
        (.throughRead 3 (some indexMatch)) ∧
      coveredTrailers indexMatch.window 0x33FF8 1 = [15] ∧ coveredTrailers indexMatch.window 0x303F8 1 = [0] ∧
      coveredTrailers indexMatch.window 0x307F8 1 = [1] ∧
      (((devIndex 0x33FF8).track 2).text.map fun x =>
        (x.slots[15]?, x.slots[0]?, x.slots[1]?, x.slots.length, x.next - x.consume)) =
        some (some .written, some .consumed, some .writing, 16, 3) ∧
      ((after (.throughReadResponse 7 .ok [0]) (devIndex 0x33FF8)).track 2).text.map TextTrack.consume = some 17 ∧
      (∀ q ∈ (devIndex 0x33FF8).trackCues 2, q.2.parityOk = true) := by unfold Answering; decide

/-- A TEXT track in slot 2 in a state, with a read of the trailer of index slot `n` outstanding. -/
def devTrailer (st : TrackState) (x : TextTrack) (n : Nat) : Device :=
  waiting (devText st x) (.throughRead 3 (some indexMatch)) (BitVec.ofNat 40 (0x30000 + 1024 * n + 1016)) 1

/-- A TEXT track whose 16 records are unread, its next close waiting. -/
def waiting0 (stall : StallPolicy) (drainEnd : Option Nat) : TextTrack :=
  { stalled0 with
    tuning := { stalled0.tuning with stall := stall }
    consume := 0
    drainEnd := drainEnd
    slots := List.replicate 16 .written }

/-- A TEXT track in DRAINING whose FINAL record, of segment 15, alone is unread. -/
def last0 : TextTrack :=
  { waiting0 .auto (some 800) with
    consume := 15
    waitingClose := false
    slots := List.replicate 15 .empty ++ [.written] }

/-- The read of the trailer resumes a STALLED track, makes the close that a DRAINING one waits for, and ends a drain. -/
theorem witness_IndexTrailerReadConsumes_states :
    (waiting0 .auto none).next = (waiting0 .auto none).consume + (waiting0 .auto none).slots.length ∧
      (waiting0 .auto none).due .running = true ∧
      ((after (.throughReadResponse 7 .ok [0]) (devTrailer .stalled (waiting0 .auto none) 0)).track 2).state = .running ∧
      ((after (.throughReadResponse 7 .ok [0]) (devTrailer .stalled (waiting0 .lock none) 0)).track 2).state = .stalled ∧
      ((after (.throughReadResponse 7 .ok [0]) (devTrailer .draining (waiting0 .auto (some 830)) 0)).track 2).text.map
        (fun x => (x.next, x.records.map SegmentRecord.final)) = some (17, [true]) ∧
      (after (.throughReadResponse 7 .ok [0]) (devTrailer .draining last0 15)).track 2 = TrackContext.freeContext ∧
      ((after (.throughReadResponse 7 .ok [0]) (devTrailer .faulted (waiting0 .auto none) 0)).track 2).text =
        some (waiting0 .auto none) := by decide +kernel

theorem witness_ReportIsQueuedThenWritten :
    dev1.reports.ring = some ring0 ∧ dev1.reports.queue.length < 16 ∧ 0 - 0 + 0 + 0 < ring0.size / 64 ∧
      dev0.reports.ring = none := by decide

theorem witness_ReportIsQueuedThenWritten_written :
    (devReport.resetN = true ∧ devReport.engine.current = none ∧ devReport.reports.ring = some ring0 ∧
      devReport.reports.writing = none ∧ devReport.reports.queue = [report0]) ∧
    Answering (devWriting (.bodyGranted 7)) 7 ⟨7, .report, 0x10000, 1⟩ .report ∧
    Answering (devWriting (.trailerGranted 7)) 7 ⟨7, .report, 0x10000, 1⟩ .report ∧
    (devWriting (.trailerGranted 7)).reports.writing = some ⟨report0, 0, 3, .trailerGranted 7⟩ := by
  unfold Answering; decide

/-- A device whose SET REPORT RING waits for the report in writing. -/
def devSwitching (a : Word) : Device :=
  { devWriting (.bodyGranted 7) with engine := ⟨[], some (setRing a), .normal, 0, 0⟩ }

/-- The same device, its report's trailer granted. -/
def devSwitchingLast (a : Word) : Device :=
  { devWriting (.trailerGranted 7) with engine := ⟨[], some (setRing a), .normal, 2, 0⟩ }

/-- The trailer answered OK while SET REPORT RING waits: the ring is switched, or kept with the report in it. -/
theorem witness_ReportIsQueuedThenWritten_waiting :
    Answering (devSwitchingLast 0x50000) 7 ⟨7, .report, 0x10000, 1⟩ .report ∧
      (devSwitchingLast 0x50000).engine.current = some (setRing 0x50000) ∧
      (∀ i : EntryNo, ∀ w ∈ liveWindow (devSwitchingLast 0x50000) i, i ≠ 1 →
        rangesOverlap (setRing 0x50000).address1.toNat (1024 * (setRing 0x50000).sizeKiB) w.base.toNat w.size = false) ∧
      ((after (.reportWriteResponse 7 .ok) (devSwitchingLast 0x50000)).reports.ring.map ReportRing.base) = some 0x50000 ∧
      Answering (devSwitchingLast 0x1000000) 7 ⟨7, .report, 0x10000, 1⟩ .report ∧
      rangesOverlap (setRing 0x1000000).address1.toNat (1024 * (setRing 0x1000000).sizeKiB) 0x1000000 4096 = true ∧
      ((after (.reportWriteResponse 7 .ok) (devSwitchingLast 0x1000000)).reports.ring.map ReportRing.written) = some 1 ∧
      ((after .reportBegin (devSwitchingLast 0x50000)).reports = (devSwitchingLast 0x50000).reports) := by
  unfold Answering; decide

theorem witness_ReportErrorAbandonsTheReport :
    Answering (devSwitching 0x50000) 7 ⟨7, .report, 0x10000, 1⟩ .report ∧
      (devSwitching 0x50000).engine.current = some (setRing 0x50000) ∧
      (∀ i : EntryNo, ∀ w ∈ liveWindow (devSwitching 0x50000) i, i ≠ 1 →
        rangesOverlap (setRing 0x50000).address1.toNat (1024 * (setRing 0x50000).sizeKiB) w.base.toNat w.size = false) ∧
      rangesOverlap (setRing 0x1000000).address1.toNat (1024 * (setRing 0x1000000).sizeKiB) 0x1000000 4096 = true := by
  unfold Answering; decide

/-- The report window. -/
def reportMatch : WindowMatch := ⟨1, ⟨0x10000, 4096, .report, none⟩⟩

/-- A device whose read point stands at its last report slot, reports 63 to 65 unread, and a read of that slot's trailer. -/
def devRead : Device :=
  waiting
    { dev1 with
      reports :=
        ⟨some ⟨0x10000, 4096, 66, 63, .consumed :: .written :: List.replicate 61 .empty ++ [.written]⟩, [], none, 0⟩ }
    (.throughRead 3 (some reportMatch)) 0x10FF8 1

theorem witness_ReportTrailerReadConsumes :
    Answering devRead 7 ⟨7, .throughRead 3 (some reportMatch), 0x10FF8, 1⟩ (.throughRead 3 (some reportMatch)) ∧
      RingFits devRead ∧ coveredTrailers reportMatch.window 0x10FF8 1 = [63] ∧
      (after (.throughReadResponse 7 .ok [0]) devRead).reports.ring.map ReportRing.read = some 65 := by
  refine ⟨by unfold Answering; decide, ⟨?_, by decide, ?_⟩, by decide, by decide⟩
  · intro x hx
    cases hx
  · intro r hr
    have : r = ⟨0x10000, 4096, 66, 63, .consumed :: .written :: List.replicate 61 .empty ++ [.written]⟩ := by
      simpa [devRead, waiting] using hr.symm
    subst this
    decide

/-- `devRead` with a read of the two last trailers of its ring. -/
def devReadTwo : Device :=
  waiting
    { dev1 with
      reports := ⟨some ⟨0x10000, 4096, 64, 62, List.replicate 62 .empty ++ [.written, .written]⟩, [], none, 0⟩ }
    (.throughRead 3 (some reportMatch)) 0x10F80 16

theorem witness_ReportTrailerReadConsumes_two :
    Answering devReadTwo 7 ⟨7, .throughRead 3 (some reportMatch), 0x10F80, 16⟩ (.throughRead 3 (some reportMatch)) ∧
      RingFits devReadTwo ∧ coveredTrailers reportMatch.window 0x10F80 16 = [62, 63] ∧
      (after (.throughReadResponse 7 .ok (List.replicate 16 0)) devReadTwo).reports.ring =
        some ⟨0x10000, 4096, 64, 64, List.replicate 64 .empty⟩ := by
  refine ⟨by unfold Answering; decide, ⟨?_, by decide, ?_⟩, by decide, by decide⟩
  · intro x hx
    cases hx
  · intro r hr
    have : r = ⟨0x10000, 4096, 64, 62, List.replicate 62 .empty ++ [.written, .written]⟩ := by
      simpa [devReadTwo, waiting] using hr.symm
    subst this
    decide

theorem witness_RevisitGoesForwardUnchanged :
    let x := { clips0 with cursor := 4294967292 }
    let d := devClips .draining x
    d.resetN = true ∧ d.writeQueue = [] ∧ burstOk 0x10FFF0 2 = true ∧ d.damagedWindows = [] ∧
      d.lookup 0x10FFF0 = some ⟨13, ⟨0x100000, 65536, .mix, some 5⟩⟩ ∧ (d.track 5).parityOk = true ∧
      (d.track 5).body = .description x ∧ mapFirst 16384 4294967292 16380 = 4294967292 ∧
      (4294967292 : Int) + 2 * 2 - 1 ≤ 4294967295 ∧ mapFirst 16384 4294967292 16378 < 4294967292 := by
  intro x d; decide

/-- The write of `mixWrite` as it waits in the queue. -/
def mixEntry : QueuedWrite :=
  ⟨4, 0x100000, [full 0x0000000000010002, full 0], [full 0x0000000000010002, full 0],
    some ⟨13, ⟨0x100000, 65536, .mix, some 5⟩⟩, 0, .waiting⟩

/-- A device whose ready head write is presented, with another behind it. -/
def devBehind (d : Device) (v : QueuedWrite) : Device := { d with writeQueue := [write0, v], presented := some .write }

/-- A write into no window, a mix write of a FAULTED lane, and one that needs no description, behind the write granted. -/
theorem witness_HeadIsDealtWith :
    let plain := { write0 with status := .waiting }
    (DealsWith (on (devBehind dev1 plain)) .memoryGrant (HeadGranted (devBehind dev1 plain) write0 [plain]) plain [] ∧
      (after .memoryGrant (devBehind dev1 plain)).writeQueue.map QueuedWrite.status = [.ready]) ∧
    (∀ d ∈ [devClip .faulted clips0, devClips .running clips0],
      DealsWith (on (devBehind d mixEntry)) .memoryGrant (HeadGranted (devBehind d mixEntry) write0 [mixEntry]) mixEntry [] ∧
      (after .memoryGrant (devBehind d mixEntry)).writeQueue = [{ mixEntry with status := .ready }] ∧
      neededSamples ((devClips .running clips0).schedule 5) 0 mixEntry.original = []) ∧
    mapFirst clips0.settings.ringFrames clips0.cursor (clips0.settings.firstFrame mixEntry.addr) = ((0 : Nat) : Int) ∧
    ((after .memoryGrant (devBehind (devClip .faulted clips0) mixEntry)).track 5).clips = some clips0 := by
  intro plain
  refine ⟨⟨⟨rfl, rfl, rfl, .inr ⟨rfl, by decide, by decide, rfl, write0, rfl, rfl, rfl⟩⟩, by decide⟩, ?_, by decide,
    by decide +kernel⟩
  intro d hd
  simp only [List.mem_cons, List.not_mem_nil, or_false] at hd
  rcases hd with rfl | rfl
  · exact ⟨⟨rfl, rfl, rfl, .inr ⟨rfl, by decide, by decide +kernel, rfl, write0, rfl, rfl, rfl⟩⟩, by decide +kernel, by decide⟩
  · exact ⟨⟨rfl, rfl, rfl, .inr ⟨rfl, by decide, by decide +kernel, rfl, write0, rfl, rfl, rfl⟩⟩, by decide +kernel, by decide⟩

/-- A mix write that arrives at an empty queue: held, gone on under DEGRADED handling, or the end of a drain. -/
theorem witness_HeadIsDealtWith_arrival :
    let beats := [full 0x0000000000010002, full 0]
    let m : WindowMatch := ⟨13, ⟨0x100000, 65536, .mix, some 5⟩⟩
    let drained := { clips0 with cursor := 48000, degradedMark := some false }
    (∀ d ∈ [devClip .running clips0, devClip .degraded clips0, devClip .draining drained],
      d.resetN = true ∧ d.writeQueue = [] ∧ Writing d 0x100000 beats m ∧ (Joined d 4 0x100000 beats m).writeQueue = [mixEntry] ∧
        (d.track 5).parityOk = true ∧ ∀ u ∈ d.trackClips 5, u.2.parityOk = true ∧ u.2.start < u.2.stop) ∧
    (∃ k ∈ neededSamples ((devClip .running clips0).schedule 5) 0 beats, clips0.isStaged k.1 k.2 = false) ∧
    Writing (devClip .draining drained) 0x10EE10 beats m ∧
    mapFirst 16384 48000 (clips0.settings.firstFrame 0x10EE10) = 48004 ∧
    neededSamples ((devClip .draining drained).schedule 5) 48004 beats = [] ∧
    (∀ u ∈ (devClip .draining drained).trackClips 5, u.2.stop + 48 * 1000 ≤ 48004 + 2 * 2) ∧
    (after (.upstreamWrite 4 0x10EE10 beats) (devClip .draining drained)).track 5 = TrackContext.freeContext := by
  intro beats m drained
  unfold Writing
  decide +kernel

theorem witness_ShortBurstIsHeld :
    let d := devClip .running clips0
    d.writeQueue = [] ∧ burstOk 0x100000 2 = true ∧ d.damagedWindows = [] ∧ (d.track 5).body = .description clips0 ∧
      d.lookup 0x100000 = some ⟨13, ⟨0x100000, 65536, .mix, some 5⟩⟩ ∧
      (∀ q ∈ d.trackClips 5, q.2.parityOk = true) ∧
      ((0 : Nat) : Int) = mapFirst clips0.settings.ringFrames clips0.cursor (clips0.settings.firstFrame 0x100000) ∧
      (∃ n ∈ neededSamples (d.schedule 5) 0 [full 0, full 0], clips0.isStaged n.1 n.2 = false) := by
  intro d; decide

/-- The held burst of `devHeld` with its lane's underrun counter at 7. -/
def devLast : Device :=
  match (devHeld.track 5).clips with
  | none => devHeld
  | some x => devHeld.setClips 5 { x with underruns := 7 }

theorem witness_HoldExpiryProcessesTheBurst :
    devLast.resetN = true ∧ devLast.writeQueue.map QueuedWrite.status = [.held] ∧
      devLast.writeQueue.map QueuedWrite.found = [some ⟨13, ⟨0x100000, 65536, .mix, some 5⟩⟩] ∧
      (devLast.track 5).parityOk = true ∧ (devLast.track 5).state = .running ∧
      ((devLast.track 5).clips.map fun x => (x.held, x.timer, x.cursor, x.underruns)) =
        some (some ⟨0, 4⟩, .running 200, 0, 7) ∧
      (∀ q ∈ devLast.trackClips 5, q.2.parityOk = true) ∧ ∀ w ∈ dev0.writeQueue.head?, w.status ≠ .held := by
  decide

/-- The held burst of a draining lane whose clip goes on after it, the underrun counter at 7. -/
def devLastDrain : Device :=
  after mixWrite (devClip .draining { clips0 with degradedMark := some false, underruns := 7 })

theorem witness_HoldExpiryProcessesTheBurst_draining :
    devLastDrain.resetN = true ∧ devLastDrain.writeQueue.map QueuedWrite.status = [.held] ∧
      devLastDrain.writeQueue.map (fun w => w.original.length) = [2] ∧
      devLastDrain.writeQueue.map QueuedWrite.found = [some ⟨13, ⟨0x100000, 65536, .mix, some 5⟩⟩] ∧
      (devLastDrain.track 5).parityOk = true ∧ (devLastDrain.track 5).state = .draining ∧
      ((devLastDrain.track 5).clips.map fun x => (x.held, x.timer, x.cursor, x.underruns, x.degradedMark)) =
        some (some ⟨0, 4⟩, .running 200, 0, 7, some false) ∧
      (∀ q ∈ devLastDrain.trackClips 5, q.2.parityOk = true) ∧
      ∃ q ∈ devLastDrain.trackClips 5, 0 + 2 * 2 < q.2.stop := by
  decide

theorem witness_SampleResponseIsStaged :
    let x := { clips0 with reads := [⟨7, 0, 0, 8, false⟩] }
    Answering devFetch 7 ⟨7, .samples 0, 0x60000, 2⟩ (.samples 0) ∧ devFetch.laneHolder 0 = some (5, x) ∧
      x.reads.find? (fun q => q.tag == 7) = some ⟨7, 0, 0, 8, false⟩ ∧ (devFetch.track 5).parityOk = true ∧
      (∀ q ∈ devFetch.trackClips 5, q.2.parityOk = true) ∧ (devFetch.track 5).state = .running ∧ x.held = none ∧
      devFetch.clip 0 = some clip0 ∧ isWanted x.stagingBase (devFetch.schedule 5) 0 7 = true ∧
      x.isStaged 0 7 = false := by intro x; unfold Answering; decide

/-- The clips of `devClip`: the clip of the tests alone. -/
theorem clip_devClip (i : Nat) (c : ClipEntry) (h : (devClip .running clips0).clip i = some c) : i = 0 ∧ c = clip0 := by
  rcases i with _ | i
  · exact ⟨rfl, by simpa [Device.clip, devClip] using h.symm⟩
  · simp [Device.clip, devClip, Vector.getElem?_replicate] at h
    split at h <;> cases h

theorem witness_LaneRequestsTheLowestRun :
    ScheduleSound (devClip .running clips0) ∧ clips0.request = none ∧ NeedsRead (devClip .running clips0) 5 clips0 0 0 ∧
      ((devClip .running clips0).trackClips 5).map (fun q => q.2.address.toNat % 2) = [0] := by
  refine ⟨⟨fun i c h => ?_, fun i j a b hij ha hb => ?_⟩, rfl, ⟨by decide, by decide, fun r h => by cases h⟩, by decide⟩
  · rw [(clip_devClip i c h).2]; decide
  · exact absurd ((clip_devClip i a ha).1.trans (clip_devClip j b hb).1.symm) hij

/-- The first samples of the tests' clip, staged. -/
def staged0 (n : Nat) : List StagedSample := (List.range n).map fun k => ⟨0, k, 5, false, true⟩

/-- The device that holds a burst, with a live read of the samples it lacks. -/
def devCompleting : Device :=
  match (devHeld.track 5).clips with
  | none => devHeld
  | some x => waiting (devHeld.setClips 5 { x with request := none, reads := [⟨7, 0, 0, 8, false⟩] }) (.samples 0) 0x60000 2

theorem witness_BurstIsMixedInFull :
    let x := { clips0 with staged := staged0 8, underruns := 8 }
    let d := devClip .degraded x
    Writing d 0x100000 (List.replicate 4 (full 1)) ⟨13, ⟨0x100000, 65536, .mix, some 5⟩⟩ ∧ d.writeQueue = [] ∧
      (d.track 5).body = .description x ∧ neededSamples (d.schedule 5) 0 (List.replicate 4 (full 1)) ≠ [] ∧
      (∀ k ∈ neededSamples (d.schedule 5) 0 (List.replicate 4 (full 1)), x.isStaged k.1 k.2 = true) ∧
      ((0 : Nat) : Int) = mapFirst x.settings.ringFrames x.cursor (x.settings.firstFrame 0x100000) ∧
      (∃ c ∈ d.trackClips 5, 0 < c.2.stop ∧ c.2.stop ≤ 0 + 2 * 4) ∧
      ((after (.upstreamWrite 4 0x100000 (List.replicate 4 (full 1))) d).track 5).state = .running ∧
      ∃ k ∈ neededSamples ((devClip .degraded { clips0 with underruns := 14 }).schedule 5) 0 [full 1],
        ({ clips0 with underruns := 14 }).isStaged k.1 k.2 = false := by
  intro x d; unfold Writing; decide +kernel

/-- A burst that lacks a sample while the lane drains with its mark set goes on, the fifteenth into FAULTED. -/
theorem witness_BurstIsMixedInFull_draining :
    let x (n : Nat) : ClipTrack := { clips0 with degradedMark := some true, underruns := n }
    let d (n : Nat) : Device := devClip .draining (x n)
    (∀ n ∈ [9, 14], Writing (d n) 0x100000 [full 1] ⟨13, ⟨0x100000, 65536, .mix, some 5⟩⟩ ∧ (d n).writeQueue = [] ∧
      (∀ c ∈ (d n).trackClips 5, c.2.parityOk = true ∧ 0 + 2 * 1 < c.2.stop + 48 * (x n).settings.tail) ∧
      ∃ k ∈ neededSamples ((d n).schedule 5) 0 [full 1], (x n).isStaged k.1 k.2 = false) ∧
    [9, 14].map (fun n => ((after (.upstreamWrite 4 0x100000 [full 1]) (d n)).track 5).state) = [.draining, .faulted] := by
  intro x d; unfold Writing; decide +kernel

theorem witness_BurstIsMixedInFull_completion :
    Answering devCompleting 7 ⟨7, .samples 0, 0x60000, 2⟩ (.samples 0) ∧
      (devCompleting.laneHolder 0).map Prod.fst = some 5 ∧ devCompleting.writeQueue.map QueuedWrite.status = [.held] ∧
      ((devCompleting.track 5).clips.map fun x => (x.held, x.stagingBase, x.cursor)) = some (some ⟨0, 4⟩, 0, 0) ∧
      (neededSamples (devCompleting.schedule 5) 0 [full 0x0000000000010002, full 0]).all
        (fun k => k.1 == 0 && k.2 < 0 + 8) = true ∧
      (after (.prefetchResponse 7 .ok [0, 0]) devCompleting).writeQueue.map QueuedWrite.status = [.ready] := by
  unfold Answering; decide +kernel

theorem witness_TicksRoundAndIncrease : (3, 30000, 1001) ∈ rateTable ∧ (7 : Nat) ≤ 7 ∧ (0 : Nat) < 1 := by decide

theorem witness_DropFrameLabelsAreConsecutive :
    Timecode.outOfRange 3 ⟨23, 59, 59, 29⟩ = false ∧ Timecode.isDropped 3 true ⟨23, 59, 59, 29⟩ = false ∧
      Timecode.outOfRange 6 ⟨0, 8, 59, 59⟩ = false ∧ nextLabel 6 ⟨0, 8, 59, 59⟩ = ⟨0, 9, 0, 4⟩ ∧
      nextLabel 3 ⟨0, 9, 59, 29⟩ = ⟨0, 10, 0, 0⟩ ∧ Timecode.isDropped 6 true ⟨0, 1, 0, 3⟩ = true := by decide

theorem witness_EnvelopeFollowsItsTable :
    let a := { clip0 with start := 480000, stop := 576000, lead := 12000 }
    a.lead ≤ a.start ∧ a.start < a.stop ∧ 9728 ≤ 32768 := by decide

/-- A clip of each mode resolves as its row says; a burst that ends at e + T retires the clip, one a frame shorter does not. -/
theorem witness_ClipsResolveReleaseAndRetire :
    let w : LaneWork := ⟨clips0, (Vector.replicate 64 none).set 0 (some clip0)⟩
    let late : LaneWork := { w with x := { clips0 with cursor := 48000 } }
    ([DuckMode.fixed, .autoFast, .autoFull, .trackDefault].map fun mode =>
      ((w.activate 0 { clip0 with mode := mode }).pool[0]).bind ClipEntry.gain) =
      [some 16384, some clips0.settings.shallowPreset, some 32768, some clips0.settings.defaultGain] ∧
    clip0.stop + 48 * clips0.settings.tail = 48007 + 1 ∧ late.x.cursor ≤ 48004 ∧
    (LaneWork.process 5 48004 [full 0, full 0] late).1.pool[0] = none ∧
    (LaneWork.process 5 48004 [full 0, full 0] late).1.x.counters.retired = 1 ∧
    (LaneWork.process 5 48004 [full 0, full 0] late).1.x.counters.skipped = 0 ∧
    (LaneWork.process 5 48008 [full 0] late).1.x.counters.skipped = 1 ∧
    ((LaneWork.process 5 48004 [full 0] late).1.pool[0]).map (fun c => (c.state, c.gain)) = some (.releasing, some 16384) ∧
    clip0.start < clip0.stop := by decide +kernel

theorem witness_RingFrameHasOnePosition :
    16384 ≤ 65536 ∧ 65536 % 2 = 0 ∧ 65535 < 65536 ∧ mapFirst 65536 0 32768 < 0 := by decide

theorem witness_FrameIsMixedAndLimited :
    (⟨clips0, Vector.replicate 64 none⟩ : LaneWork).x.takeSample none 0 = (0, 0, clips0) ∧
      clips0.counters.saturated ≤ 65535 := by decide

theorem witness_MeterCompletesBlocks :
    4800 * ((⟨[], 0, 5, .shallow⟩ : Meter).block + 1) ≤ 4800 ∧ 4799 < 4800 * ((⟨[], 0, 5, .shallow⟩ : Meter).block + 1) ∧
      ∀ q ∈ [((0 : Nat), 2 * 4800 * 32768)], q.2 ≤ 2 * 4800 * 32768 := by decide

theorem witness_CuesAreDroppedInOrder_late :
    stalled0.openStart ≤ 800 ∧ 799 < stalled0.openStart ∧ stalled0.openStart < 801 ∧ stalled0.tuning.late = .shift := by
  decide

theorem witness_ClipsAreDroppedInOrder_late :
    let r : ClipRecord := ⟨2, 0, 77, ⟨0, 0, 0, 1⟩, 8, 0x60000, 32768, 16384⟩
    r.invalid = none ∧ r.badTimes clips0.settings = none ∧
      r.requested clips0.settings < ({ clips0 with cursor := 1921 }).cursor := by decide

/-- A cue record: frames 31 to 60, ROW anchor 14, text A. -/
def cueBeats : List Beat :=
  [full 0x00000100000E0201, full 0x0000010600000007, full 0x020A, full 0, full 0x41] ++ List.replicate 11 (full 0)

/-- The intake write of a cue whose gap to the cue before it, on the same row, is closed. -/
theorem witness_AcceptedCueIsPlaced :
    let d := devCue .running text0
    let r := parseCue (beatsBytes cueBeats)
    Writing d 0x20000 cueBeats ⟨6, ⟨0x20000, 4096, .textIntake, some 2⟩⟩ ∧ wholeRecord 128 0x20000 0x20000 cueBeats = true ∧
      d.slotHeld 2 0 = false ∧ r.invalid 2 = none ∧ r.start.frames 2 false = 31 ∧ r.stop.frames 2 false = 60 ∧
      ticks 2 60 ≤ 4151263199 ∧ (d.trackCues 2).length < text0.settings.reserve ∧ d.cue 1 = none ∧
      (∀ j < 1, (d.cue j).isSome = true) ∧ (candidateRows r.anchor r.anchorRow r.height).head? = some 14 ∧
      (∀ q ∈ d.activeCues 2, ¬(q.2.start < 60 ∧ 31 < q.2.stop)) ∧
      (((after (.upstreamWrite 4 0x20000 cueBeats) d).cue 0).map CueEntry.stop) = some 31 ∧
      (((after (.upstreamWrite 4 0x20000 cueBeats) d).cue 1).map fun c => (c.start, c.stop, c.row)) =
        some (31, 60, 14) := by
  intro d r; unfold Writing; decide +kernel

/-- The first three beats of the cue record changed. -/
def cueRecord (a b c : Word) : List Beat := [full a, full b, full c] ++ cueBeats.drop 3

/-- The reason and the detail of the drop that a capture into intake slot 0 of slot 2 posts. -/
def cueDropOf (d : Device) (beats : List Beat) : Option (DropReason × DropDetail) :=
  match (after (.upstreamWrite 4 0x20000 beats) d).reports.queue with
  | [.cueDropped 2 q] => some (q.reason, q.detail)
  | _ => none

/-- A TEXT track in RUNNING, the rate, the origin, the reserve and the start of its open segment given. -/
def cueTrack (rate : RateSettings) (reserve openStart : Nat) : TextTrack :=
  { text0 with openStart := openStart, settings := { text0.settings with rate := rate, reserve := reserve } }

/-- R74 to R80, R83 and R90, each step at a boundary of its range, in the steps' order; a second track owes the rest of the pool. -/
theorem test_cueDrops :
    let run := devText .running
    let owed := (devCue .running (cueTrack ⟨2, false, 0⟩ 1 0)).setTrack 3 (context .running (.text (cueTrack ⟨2, false, 0⟩ 255 0)))
    let tall := { run text0 with cuePool := (Vector.replicate 256 none).set 0 (some { cue0 with row := 0, height := 16, stop := 32 }) }
    [cueDropOf (run text0) (cueRecord 0x00000100000E0202 0x0000010600000007 0x020A),
      cueDropOf (run text0) (cueRecord 0x00006100000E0201 0x0000010600000007 0x020A),
      cueDropOf (run text0) (cueRecord 0x00000100000E0301 0x0000010600000007 0x020A),
      cueDropOf (run text0) (cueRecord 0x00000100000E0201 0x0000011900000007 0x020A),
      cueDropOf (run text0) (cueRecord 0x00000100000E0201 0x0000010600000007 0x0106),
      cueDropOf (run (cueTrack ⟨2, false, 60⟩ 4 0)) cueBeats,
      cueDropOf (run (cueTrack ⟨0, false, 0⟩ 4 0)) (cueRecord 0x00000100000E0201 0x0000010600000007 0x173B3B17),
      cueDropOf (run (cueTrack ⟨2, false, 0⟩ 4 60)) cueBeats,
      cueDropOf owed cueBeats,
      cueDropOf tall cueBeats,
      cueDropOf (devText .draining text0) cueBeats,
      cueDropOf (devText .faulted text0) cueBeats] =
    [some (.malformed, .kind), some (.malformed, .length), some (.malformed, .anchor), some (.malformed, .timecode),
      some (.malformed, .order), some (.malformed, .beforeOrigin), some (.malformed, .timecode), some (.late, .none),
      some (.pool, .none), some (.noRoom, .none), some (.draining, .none), none] := by decide +kernel

/-- The capture of a cue that ends where the open segment begins, the drops before it not applying; and partial writes. -/
theorem witness_CuesAreDroppedInOrder :
    let m : WindowMatch := ⟨6, ⟨0x20000, 4096, .textIntake, some 2⟩⟩
    let x := cueTrack ⟨2, false, 0⟩ 4 60
    let r := parseCue (beatsBytes cueBeats)
    Capturing (devText .running x) 0x20000 cueBeats m 2 0 ∧
      (∀ q ∈ (cueDrops (devText .running x) 2 x 0 r).take 8, ¬q.1) ∧
      (∃ before drop after, cueDrops (devText .running x) 2 x 0 r = before ++
        (r.start.frames 2 false - 0 < 60 ∧ (r.stop.frames 2 false - 0 ≤ 60 ∨ x.tuning.late = .drop), drop) :: after) ∧
      r.start.frames 2 false = 31 ∧ r.stop.frames 2 false = 60 ∧
      Capturing (devText .draining x) 0x20000 cueBeats m 2 0 ∧ Capturing (devText .faulted x) 0x20000 cueBeats m 2 0 ∧
      WritingPart (devCue .running text0) 0x20F70 [full 0] m 2 ∧ WritingPart (devText .faulted text0) 0x20000 [full 0] m 2 := by
  intro m x r
  refine ⟨by unfold Capturing Writing; decide +kernel, ?_, ⟨(cueDrops (devText .running x) 2 x 0 r).take 8, _, _, rfl⟩,
    by decide +kernel, by decide +kernel, by unfold Capturing Writing; decide +kernel,
    by unfold Capturing Writing; decide +kernel, ?_, ?_⟩
  · simp only [cueDrops, List.take_succ_cons, List.take_zero, List.forall_mem_cons, List.not_mem_nil, false_imp_iff,
      implies_true, and_true]
    unfold badLabel
    decide +kernel
  · refine ⟨by decide, by unfold Writing; decide, by decide, by decide, fun k h1 h2 => ?_, by decide⟩
    have : k = 30 := by simp [m] at h1 h2; omega
    subst this
    decide
  · refine ⟨by decide, by unfold Writing; decide, by decide, by decide, fun k h1 h2 => ?_, by decide⟩
    have : k = 0 := by simp [m] at h1 h2; omega
    subst this
    decide

/-- A clip record: requested at tick 0 for 8 ticks. -/
def clipBeats : List Beat :=
  [full 0x0000004D00000002, full 0x0000000800000000, full 0x60100, full 0x20004000] ++ List.replicate 12 (full 0)

/-- A second clip of the tests: positions 12 to 20. -/
def clip1 : ClipEntry := { clip0 with intakeSlot := 2, start := 12, stop := 20 }

/-- A DESCRIPTION track with two clips on its schedule. -/
def devPair (a b : ClipEntry) : Device :=
  { devClips .running clips0 with clipPool := ((Vector.replicate 64 none).set 0 (some a)).set 1 (some b) }

/-- The two clips of the tests. -/
def devTwo : Device := devPair clip0 clip1

theorem clip_devPair (a b : ClipEntry) (i : Nat) (c : ClipEntry) (h : (devPair a b).clip i = some c) :
    i = 0 ∧ c = a ∨ i = 1 ∧ c = b := by
  rcases i with _ | _ | i
  · exact .inl ⟨rfl, by simpa [Device.clip, devPair] using h.symm⟩
  · exact .inr ⟨rfl, by simpa [Device.clip, devPair] using h.symm⟩
  · simp [Device.clip, devPair, Vector.getElem?_replicate] at h
    split at h <;> cases h

theorem sound_devPair (a b : ClipEntry) (ha : a.start < a.stop) (hb : b.start < b.stop) (h : a.stop ≤ b.start) :
    ScheduleSound (devPair a b) := by
  refine ⟨fun i c hc => ?_, fun i j v w hij hv hw _ => ?_⟩
  · rcases clip_devPair a b i c hc with ⟨-, rfl⟩ | ⟨-, rfl⟩ <;> assumption
  · rcases clip_devPair a b i v hv with ⟨rfl, rfl⟩ | ⟨rfl, rfl⟩ <;>
      rcases clip_devPair _ _ j w hw with ⟨rfl, rfl⟩ | ⟨rfl, rfl⟩
    · exact absurd rfl hij
    · exact .inl h
    · exact .inr h
    · exact absurd rfl hij

/-- The intake write of a clip that starts where the first clip ends, and pushes the second. -/
theorem witness_AcceptedClipIsScheduled :
    ScheduleSound devTwo ∧
    (Writing devTwo 0x40080 clipBeats ⟨12, ⟨0x40000, 4096, .clipIntake, some 5⟩⟩ ∧
      wholeRecord 128 0x40000 0x40080 clipBeats = true ∧ devTwo.slotHeld 5 1 = false ∧
      (parseClip (beatsBytes clipBeats)).invalid = none ∧ (parseClip (beatsBytes clipBeats)).badTimes clips0.settings = none ∧
      (parseClip (beatsBytes clipBeats)).requested clips0.settings = 0 ∧
      (devTwo.trackClips 5).length < clips0.settings.reserve ∧ devTwo.clip 2 = none ∧
      (∀ j < 2, (devTwo.clip j).isSome = true) ∧
      (devTwo.schedule 5).filter (fun q => decide (0 < q.2.start)) = [(1, clip1)] ∧ clip1.state = .waiting ∧
      ((after (.upstreamWrite 4 0x40080 clipBeats) devTwo).schedule 5).map (fun q => (q.1, q.2.start, q.2.stop)) =
        [(0, 0, 8), (2, 8, 16), (1, 16, 24)]) := by
  exact ⟨sound_devPair _ _ (by decide) (by decide) (by decide), by unfold Writing; decide +kernel⟩

/-- The first four beats of the clip record changed. -/
def clipRecord (a b c d : Word) : List Beat := [full a, full b, full c, full d] ++ clipBeats.drop 4

/-- The reason and the detail of the drop that a capture into intake slot 1 of slot 5 posts. -/
def clipDropOf (d : Device) (beats : List Beat) : Option (DropReason × DropDetail) :=
  match (after (.upstreamWrite 4 0x40080 beats) d).reports.queue with
  | [.clipDropped 5 q] => some (q.reason, q.detail)
  | _ => none

/-- A DESCRIPTION track, its rate, its reserve and its mix cursor given. -/
def clipTrack (rate : RateSettings) (reserve cursor : Nat) : ClipTrack :=
  { clips0 with cursor := cursor, settings := { clips0.settings with rate := rate, reserve := reserve } }

/-- R117 to R119, R121, R122 and R127, each step at a boundary of its range, in the steps' order. -/
theorem test_clipDrops :
    let run := devClips .running
    let owed := (devClip .running (clipTrack ⟨2, false, 0⟩ 1 0)).setTrack 6
      (context .running (.description { clipTrack ⟨2, false, 0⟩ 63 0 with lane := 1 }))
    [clipDropOf (run clips0) (clipRecord 0x0000004D00000003 0x0000000800000000 0x60100 0x20004000),
      clipDropOf (run clips0) (clipRecord 0x0000004D00000002 0 0x60100 0x20004000),
      clipDropOf (run clips0) (clipRecord 0x0000004D00000002 0x0000000800000000 0x60101 0x20004000),
      clipDropOf (run clips0) (clipRecord 0x0000004D00000002 0x0000000800000000 0x60100 0x20008001),
      clipDropOf (run clips0) (clipRecord 0x0000004D00000402 0x0000000800000000 0x60100 0x20004000),
      clipDropOf (run clips0) (clipRecord 0x0000004D00000002 0x0000000800000000 0x60100 0x80014000),
      clipDropOf (run clips0) (clipRecord 0x0000004D00000002 0x0000000800000019 0x60100 0x20004000),
      clipDropOf (run (clipTrack ⟨2, false, 1⟩ 4 0)) clipBeats,
      clipDropOf (run (clipTrack ⟨0, false, 0⟩ 4 0)) (clipRecord 0x0000004D00000002 0x00000008173B3B17 0x60100 0x20004000),
      clipDropOf (run (clipTrack ⟨2, false, 0⟩ 4 1)) clipBeats,
      clipDropOf owed clipBeats,
      clipDropOf (devPair clip0 { clip1 with state := .active }) clipBeats,
      clipDropOf (devPair { clip0 with stop := 4151239192 } { clip1 with start := 4151239192, stop := 4151239193 }) clipBeats,
      clipDropOf (devPair clip0 { clip1 with stop := 4151239199 }) clipBeats,
      clipDropOf (devClips .draining clips0) clipBeats,
      clipDropOf (devClips .faulted clips0) clipBeats] =
    [some (.malformed, .kind), some (.malformed, .duration), some (.malformed, .address), some (.malformed, .level),
      some (.malformed, .mode), some (.malformed, .gain), some (.malformed, .timecode), some (.malformed, .beforeOrigin),
      some (.malformed, .timecode), some (.late, .none), some (.pool, .none), some (.late, .collision),
      some (.malformed, .range), some (.malformed, .range), some (.draining, .none), none] := by decide +kernel

/-- The capture of a clip that fails the last step, the drops before it not applying; and partial writes. -/
theorem witness_ClipsAreDroppedInOrder :
    let m : WindowMatch := ⟨12, ⟨0x40000, 4096, .clipIntake, some 5⟩⟩
    let x := clipTrack ⟨2, false, 0⟩ 4 1
    let r := parseClip (beatsBytes clipBeats)
    Capturing (devClips .running x) 0x40080 clipBeats m 5 1 ∧
      (∀ q ∈ (clipDrops (devClips .running x) 5 x 1 r).take 9, ¬q.1) ∧
      (∃ before drop after, clipDrops (devClips .running x) 5 x 1 r = before ++ (wantedTick x r < 1, drop) :: after) ∧
      wantedTick x r = 0 ∧
      Capturing (devClips .draining x) 0x40080 clipBeats m 5 1 ∧ Capturing (devClips .faulted x) 0x40080 clipBeats m 5 1 ∧
      WritingPart (devTwo) 0x40080 [full 0] m 5 := by
  intro m x r
  refine ⟨by unfold Capturing Writing; decide +kernel, ?_, ⟨(clipDrops (devClips .running x) 5 x 1 r).take 9, _, _, rfl⟩,
    by decide +kernel, by unfold Capturing Writing; decide +kernel, by unfold Capturing Writing; decide +kernel, ?_⟩
  · simp only [clipDrops, List.take_succ_cons, List.take_zero, List.forall_mem_cons, List.not_mem_nil, false_imp_iff,
      implies_true, and_true]
    unfold badLabel
    decide +kernel
  · refine ⟨by decide, by unfold Writing; decide, by decide, by decide, fun k h1 h2 => ?_, by decide⟩
    have : k = 1 := by simp [m] at h1 h2; omega
    subst this
    decide

/-- A capture whose own shift pushes a clip that is ACTIVE, and one whose cascade passes the timeline limit. -/
theorem witness_ClipsAreDroppedInOrder_schedule :
    let r := parseClip (beatsBytes clipBeats)
    let moving := devPair clip0 { clip1 with state := .active }
    let long := devPair clip0 { clip1 with stop := 4151239199 }
    (∀ q ∈ clipDrops moving 5 clips0 1 r, ¬q.1) ∧ (∀ q ∈ clipDrops long 5 clips0 1 r, ¬q.1) ∧ ScheduleSound moving ∧
      ScheduleSound long ∧ moving.clipsInUse < 64 ∧ long.clipsInUse < 64 ∧
      (∀ q ∈ moving.trackClips 5 ++ long.trackClips 5, q.2.parityOk = true) ∧ wantedTick clips0 r = 0 ∧
      (moving.schedule 5).filter (fun q => decide (0 < q.2.start)) = [(1, { clip1 with state := .active })] ∧
      (long.schedule 5).filter (fun q => decide (0 < q.2.start)) = [(1, { clip1 with stop := 4151239199 })] ∧
      4151263199 < 8 + 8 + (4151239199 - 12) + 48 * clips0.settings.tail := by
  intro r moving long
  refine ⟨?_, ?_, sound_devPair _ _ (by decide) (by decide) (by decide), sound_devPair _ _ (by decide) (by decide) (by decide),
    by decide, by decide, by decide +kernel, by decide +kernel, by decide +kernel, by decide +kernel, by decide⟩ <;>
  · simp only [clipDrops, List.forall_mem_cons, List.not_mem_nil, false_imp_iff, implies_true, and_true]
    unfold badLabel
    decide +kernel

theorem cue_dev0 (i : Nat) : dev0.cue i = none := by
  simp [Device.cue, dev0, Device.released, Device.held, Vector.getElem?_replicate]
  split <;> rfl

theorem clip_dev0 (i : Nat) : dev0.clip i = none := by
  simp [Device.clip, dev0, Device.released, Device.held, Vector.getElem?_replicate]
  split <;> rfl

theorem clips_devText (t : Slot) : ((devText .running text0).track t).clips = none := by
  revert t; decide

theorem witness_StepKeepsTheBoundsAndAttn : Bounded dev0 ∧ step (on dev0) = .next (on dev0) := by
  refine ⟨by unfold Bounded; decide, rfl⟩

theorem witness_StepKeepsTheBoundsAndAttn_attn : AttnFollows devBypass.settle := by unfold AttnFollows; decide

theorem witness_StepKeepsBypassClear : BypassClear { dev0 with engine := ⟨[], none, .bypass, 0, 0⟩ } :=
  fun _ => ⟨by decide, cue_dev0, clip_dev0⟩

theorem witness_StepKeepsQueueInOrder : QueueInOrder devFull := by unfold QueueInOrder; decide

theorem witness_StepKeepsTheWindows : WindowsSound dev0 := by
  have only : ∀ i : EntryNo, ∀ w ∈ liveWindow dev0 i, i = 0 := by decide
  refine ⟨by decide, by decide, fun i j v w hij hi hj => absurd ?_ hij⟩
  rw [only i v (by simpa using hi), only j w (by simpa using hj)]

theorem witness_StepKeepsTheScreen : ScreenSound dev0 :=
  ⟨fun i c h => by simp [cue_dev0] at h, fun i j a b _ h => by simp [cue_dev0] at h⟩

theorem witness_StepKeepsHoldsUnique : HoldsUnique dev0 :=
  ⟨fun i j a b _ h => by simp [cue_dev0] at h, fun i j a b _ h => by simp [clip_dev0] at h⟩

theorem witness_StepKeepsTheSchedule : ScheduleSound dev0 :=
  ⟨fun i c h => by simp [clip_dev0] at h, fun i j a b _ h => by simp [clip_dev0] at h⟩

theorem witness_StepKeepsTheReportRing : RingFits dev1 := by
  refine ⟨fun x h => (by cases h), by decide, fun r h => ?_⟩
  have : r = ring0 := by simpa [dev1] using h.symm
  subst this
  decide

theorem witness_StepKeepsTheTracks :
    TracksShaped (devText .running text0) ∧ LanesUnique (devText .running text0) ∧
      ReservesFit (devText .running text0) := by
  refine ⟨by unfold TracksShaped; decide, fun t u x y _ h => ?_, by unfold ReservesFit; decide⟩
  rw [clips_devText] at h
  cases h

theorem witness_StepNeverMovesACursorBack : TracksShaped (devClips .running clips0) := by unfold TracksShaped; decide

end Sys2Proof.Tests
end

section

/-! PROOFS. The report ring (R162, R163): what each change of the report writer keeps, and the claim that accepted reports
always fit. -/

namespace Sys2Proof.Machine

open Sys2Proof Sys2Proof.Safety

/-! ## The report writer by itself -/

/-- The report writer's part of `RingFits`. -/
def ReportWriter.Fits (w : ReportWriter) : Prop :=
  w.queue.length ≤ Config.postQueueDepth ∧
    ∀ r, w.ring = some r →
      r.slots.length = r.slotCount ∧ Config.postQueueDepth ≤ r.slotCount ∧ r.read ≤ r.written ∧
        r.written - r.read + (if w.writing.isSome then 1 else 0) + w.queue.length ≤ r.slotCount

theorem ringFits_iff {d : Device} :
    RingFits d ↔ (∀ x, d.engine.current = some x → x.ringOk = true) ∧ d.reports.Fits :=
  Iff.rfl

theorem ReportWriter.Fits.posted {w : ReportWriter} (h : w.Fits) (x : Report) : (w.posted x).Fits := by
  obtain ⟨hq, hr⟩ := h
  rcases w.posted_cases x with ⟨ha, e⟩ | ⟨-, e⟩ <;> rw [e]
  · obtain ⟨r, hring, hlen, hload⟩ := w.accepts_iff.1 ha
    refine ⟨by simpa using hlen, fun q hq' => ?_⟩
    obtain rfl : r = q := Option.some.inj (hring.symm.trans hq')
    obtain ⟨hslots, hdepth, hread, -⟩ := hr r hring
    refine ⟨hslots, hdepth, hread, ?_⟩
    simp only [List.length_append, List.length_singleton]
    omega
  · exact ⟨hq, hr⟩

theorem ReportWriter.Fits.foldl_posted {w : ReportWriter} (h : w.Fits) (xs : List Report) :
    (xs.foldl ReportWriter.posted w).Fits := by
  induction xs generalizing w with
  | nil => exact h
  | cons x xs ih => exact ih (h.posted x)

theorem ReportWriter.Fits.begun {w : ReportWriter} (h : w.Fits) {ring : ReportRing} {x : Report} {rest : List Report}
    (hr : w.ring = some ring) (hw : w.writing = none) (hq : w.queue = x :: rest) : (w.begun ring x rest).Fits := by
  obtain ⟨hlen, hring⟩ := h
  obtain ⟨hslots, hdepth, hread, hload⟩ := hring ring hr
  simp only [hw, hq, Option.isSome_none, List.length_cons, Bool.false_eq_true, if_false] at hlen hload
  refine ⟨Nat.le_of_succ_le hlen, fun r e => ?_⟩
  obtain rfl := Option.some.inj e
  refine ⟨List.length_set.trans hslots, hdepth, hread, ?_⟩
  show ring.written - ring.read + 1 + rest.length ≤ ring.slotCount
  omega

/-- Only whether a report is in writing counts, not how far it is. -/
theorem ReportWriter.Fits.writing_congr {w : ReportWriter} (h : w.Fits) {o : Option ReportInWriting}
    (ho : o.isSome = w.writing.isSome) : ReportWriter.Fits { w with writing := o } := by
  obtain ⟨hlen, hring⟩ := h
  exact ⟨hlen, fun r e => by simpa [ho] using hring r e⟩

theorem ReportWriter.Fits.burstGranted {w : ReportWriter} (h : w.Fits) (tag : Nat) : (w.burstGranted tag).Fits :=
  h.writing_congr (by simp)

theorem ReportWriter.Fits.completed {w : ReportWriter} (h : w.Fits) {x : ReportInWriting} (hw : w.writing = some x) :
    (w.completed x).Fits := by
  obtain ⟨hlen, hring⟩ := h
  refine ⟨hlen, fun r e => ?_⟩
  obtain ⟨q, hq, rfl⟩ := Option.map_eq_some_iff.1 e
  obtain ⟨hslots, hdepth, hread, hload⟩ := hring q hq
  simp only [hw, Option.isSome_some, if_true] at hload
  refine ⟨List.length_set.trans hslots, hdepth, Nat.le_succ_of_le hread, ?_⟩
  show q.written + 1 - q.read + 0 + w.queue.length ≤ q.slotCount
  omega

theorem ReportWriter.Fits.abandoned {w : ReportWriter} (h : w.Fits) (x : ReportInWriting) : (w.abandoned x).Fits := by
  obtain ⟨hlen, hring⟩ := h
  refine ⟨hlen, fun r e => ?_⟩
  obtain ⟨q, hq, rfl⟩ := Option.map_eq_some_iff.1 e
  obtain ⟨hslots, hdepth, hread, hload⟩ := hring q hq
  refine ⟨List.length_set.trans hslots, hdepth, hread, ?_⟩
  show q.written - q.read + 0 + w.queue.length ≤ q.slotCount
  omega

/-- A new ring of at least 17 slots takes whatever is queued and in writing (R32). -/
theorem ReportWriter.Fits.switched {w : ReportWriter} (h : w.Fits) (base : Addr) {size : Nat}
    (hs : Config.postQueueDepth < size / 64) :
    ReportWriter.Fits { w with ring := some (ReportRing.fresh base size) } := by
  refine ⟨h.1, fun r e => ?_⟩
  obtain rfl := Option.some.inj e
  refine ⟨List.length_replicate, Nat.le_of_lt hs, Nat.le_refl 0, ?_⟩
  have hq := h.1
  show 0 - 0 + (if w.writing.isSome then 1 else 0) + w.queue.length ≤ size / 64
  split <;> omega

/-! ## Consumption (R166) -/

theorem le_readEnd (slots : List ReportSlot) (w n r : Nat) : r ≤ readEnd slots w n r := by
  induction n generalizing r with
  | zero => exact Nat.le_refl r
  | succ n ih =>
    unfold readEnd
    split
    · exact Nat.le_of_succ_le (ih (r + 1))
    · exact Nat.le_refl r

theorem readEnd_le {slots : List ReportSlot} {w r : Nat} (n : Nat) (h : r ≤ w) : readEnd slots w n r ≤ w := by
  induction n generalizing r with
  | zero => exact h
  | succ n ih =>
    unfold readEnd
    split
    · next hc => exact ih hc.1
    · exact h

@[simp] theorem length_emptyReportSlots (slots : List ReportSlot) (r n : Nat) :
    (emptyReportSlots slots r n).length = slots.length := by
  induction n generalizing slots r with
  | zero => rfl
  | succ n ih => rw [emptyReportSlots, ih, List.length_set]

/-- A consumed slot leaves the ring's size, its slots' number and w, and the read point moves on up to w (R166). -/
theorem ReportRing.consumed_spec (r : ReportRing) (n : Nat) :
    (r.consumed n).slots.length = r.slots.length ∧ (r.consumed n).slotCount = r.slotCount ∧
      (r.consumed n).written = r.written ∧ r.read ≤ (r.consumed n).read ∧
        (r.read ≤ r.written → (r.consumed n).read ≤ r.written) := by
  unfold ReportRing.consumed
  split
  · exact ⟨by simp, rfl, rfl, le_readEnd .., readEnd_le _⟩
  · exact ⟨by simp, rfl, rfl, Nat.le_refl _, id⟩

theorem ReportWriter.Fits.consumed {w : ReportWriter} (h : w.Fits) {r : ReportRing} (hr : w.ring = some r) (n : Nat) :
    ReportWriter.Fits { w with ring := some (r.consumed n) } := by
  obtain ⟨hlen, hring⟩ := h
  obtain ⟨hslots, hdepth, hread, hload⟩ := hring r hr
  obtain ⟨cslots, ccount, cwritten, cfrom, cto⟩ := r.consumed_spec n
  refine ⟨hlen, fun q e => ?_⟩
  obtain rfl := Option.some.inj e
  rw [ccount, cwritten]
  refine ⟨cslots.trans hslots, hdepth, cto hread, ?_⟩
  show r.written - (r.consumed n).read + (if w.writing.isSome then 1 else 0) + w.queue.length ≤ r.slotCount
  omega

/-- Operands that pass their checks name a ring of at least 64 slots (R30). -/
theorem Directive.postQueueDepth_lt_of_ringOk {x : Directive} (h : x.ringOk = true) :
    Config.postQueueDepth < 1024 * x.sizeKiB / 64 := by
  simp only [Directive.ringOk, Bool.and_eq_true, List.contains_iff_mem, List.mem_cons, List.not_mem_nil, or_false] at h
  obtain ⟨⟨-, hk⟩, -⟩ := h
  unfold Config.postQueueDepth
  omega

end Sys2Proof.Machine

namespace Sys2Proof.Safety

open Sys2Proof Sys2Proof.Machine

/-! ## The operations on the report ring -/

theorem RingFits.of_reports {d e : Device} (h : RingFits d) (hc : e.engine.current = d.engine.current)
    (hf : e.reports.Fits) : RingFits e :=
  ⟨fun x hx => h.1 x (hc.symm.trans hx), hf⟩

theorem RingFits.of_idle {d : Device} (hc : d.engine.current = none) (hf : d.reports.Fits) : RingFits d :=
  ⟨fun x hx => by simp [hc] at hx, hf⟩

theorem RingFits.fits {d : Device} (h : RingFits d) : d.reports.Fits := h.2

theorem RingFits.beginReport {d : Device} (h : RingFits d) : RingFits d.beginReport := by
  unfold Device.beginReport
  split
  · next hw hr hq => exact h.of_reports rfl (h.fits.begun hr hw hq)
  all_goals exact h

theorem RingFits.grantReport {d : Device} (h : RingFits d) : RingFits d.grantReport := by
  unfold Device.grantReport
  split
  · exact h
  · exact h.of_reports rfl (h.fits.burstGranted _)

theorem RingFits.switchRing {d : Device} (h : RingFits d) {x : Directive} (hx : x.ringOk = true) :
    RingFits (d.switchRing x) := by
  unfold Device.switchRing
  split
  · exact .of_idle rfl (h.fits.switched _ (x.postQueueDepth_lt_of_ringOk hx))
  · exact .of_idle rfl (h.fits.posted _)

theorem RingFits.setReportRing {d : Device} (h : RingFits d) (x : Directive) : RingFits (d.setReportRing x) := by
  unfold Device.setReportRing
  split
  · next hx =>
    split
    · exact h.switchRing hx
    · refine ⟨fun y hy => ?_, h.fits⟩
      obtain rfl := Option.some.inj hy
      exact hx
  · exact h.of_reports rfl (h.fits.posted _)

theorem RingFits.reportEnded {d : Device} (h : RingFits d) : RingFits d.reportEnded := by
  unfold Device.reportEnded
  split
  · exact h
  · next x hx => exact h.switchRing (h.1 x hx)

theorem RingFits.reportResponse {d : Device} (h : RingFits d) (tag : Nat) (resp : Resp) :
    RingFits (d.reportResponse tag resp) := by
  unfold Device.reportResponse
  split
  · exact h
  · next x hw =>
    have abandoned : RingFits (Device.reportEnded { d with reports := d.reports.abandoned x }) :=
      RingFits.reportEnded (h.of_reports rfl (h.fits.abandoned x))
    split
    · exact h
    · split
      · exact h.of_reports rfl (h.fits.writing_congr (by simp [hw]))
      · exact h
    · split
      · exact abandoned
      · exact h
    · exact h
    · split
      · exact RingFits.reportEnded (h.of_reports rfl (h.fits.completed hw))
      · exact h
    · split
      · exact abandoned
      · exact h

theorem RingFits.reportTrailerRead {d : Device} (h : RingFits d) (n : Nat) : RingFits (d.reportTrailerRead n) := by
  unfold Device.reportTrailerRead
  split
  · exact h
  · next r hr =>
    split
    · exact h.of_reports rfl (h.fits.consumed hr n)
    · exact h

end Sys2Proof.Safety

/-! PROOFS. Apart from the report writer's own events and SET REPORT RING, an operation touches the report writer by posting
alone, and it leaves the directive that waits where it is. -/

namespace Sys2Proof.Machine

open Sys2Proof

/-- `e` comes from `d` with the same waiting directive, and its report writer is that of `d` after some reports were posted. -/
structure Device.OnlyPosts (d e : Device) : Prop where
  current : e.engine.current = d.engine.current
  reports : ∃ xs : List Report, e.reports = xs.foldl ReportWriter.posted d.reports

namespace Device.OnlyPosts

theorem same {d e : Device} (hc : e.engine.current = d.engine.current) (hr : e.reports = d.reports) : d.OnlyPosts e :=
  ⟨hc, [], hr⟩

theorem posts {d e : Device} {x : Report} (hc : e.engine.current = d.engine.current)
    (hr : e.reports = d.reports.posted x) : d.OnlyPosts e :=
  ⟨hc, [x], hr⟩

theorem trans {d e f : Device} (h : d.OnlyPosts e) (k : e.OnlyPosts f) : d.OnlyPosts f := by
  obtain ⟨xs, hx⟩ := h.reports
  obtain ⟨ys, hy⟩ := k.reports
  exact ⟨k.current.trans h.current, xs ++ ys, by rw [hy, hx, List.foldl_append]⟩

theorem before {d e f : Device} (h : e.OnlyPosts f) (hc : e.engine.current = d.engine.current)
    (hr : e.reports = d.reports) : d.OnlyPosts f :=
  (same hc hr).trans h

theorem andThen {d e f : Device} (h : d.OnlyPosts e) (hc : f.engine.current = e.engine.current)
    (hr : f.reports = e.reports) : d.OnlyPosts f :=
  h.trans (same hc hr)

theorem foldl {α : Type} {f : Device → α → Device} (hf : ∀ (d : Device) a, d.OnlyPosts (f d a)) (l : List α)
    (d : Device) : d.OnlyPosts (l.foldl f d) := by
  induction l generalizing d with
  | nil => exact .same rfl rfl
  | cons a l ih => exact (hf d a).trans (ih (f d a))

theorem fits {d e : Device} (h : d.OnlyPosts e) (hd : d.reports.Fits) : e.reports.Fits := by
  obtain ⟨xs, hx⟩ := h.reports
  rw [hx]
  exact hd.foldl_posted xs

end Device.OnlyPosts

theorem Device.onlyPosts_refuse (d : Device) (x : Directive) (r : RefusalReason) : d.OnlyPosts (d.refuse x r) :=
  .posts rfl rfl

/-! ## Integrity faults (R173 to R176) -/

theorem Device.onlyPosts_rewriteWindow (d : Device) (n : Nat) : d.OnlyPosts (d.rewriteWindow n) := by
  unfold Device.rewriteWindow
  repeat' split
  all_goals exact .same rfl rfl

theorem Device.onlyPosts_enterBypass (d : Device) (k : ParityCause) (n : Nat) : d.OnlyPosts (d.enterBypass k n) :=
  .posts rfl rfl

theorem Device.onlyPosts_repeatFault (d : Device) (k : ParityCause) (n : Nat) : d.OnlyPosts (d.repeatFault k n) := by
  unfold Device.repeatFault
  dsimp only
  split
  · exact (d.onlyPosts_rewriteWindow n).trans (.posts rfl rfl)
  · exact .posts rfl rfl

theorem Device.onlyPosts_tellMonitor (d : Device) (k : ParityCause) (n : Nat) : d.OnlyPosts (d.tellMonitor k n) := by
  unfold Device.tellMonitor
  split
  · exact d.onlyPosts_enterBypass k n
  · exact d.onlyPosts_repeatFault k n

theorem Device.onlyPosts_readingTrack {d : Device} {t : Slot} {k : TrackContext → Device}
    (hk : d.OnlyPosts (k (d.track t))) : d.OnlyPosts (d.readingTrack t k) := by
  unfold Device.readingTrack
  split
  · exact hk
  · exact d.onlyPosts_tellMonitor _ _

/-! ## The track table (R47, R53) -/

theorem Device.onlyPosts_completeDrain (d : Device) (t : Slot) : d.OnlyPosts (d.completeDrain t) := by
  unfold Device.completeDrain
  split
  · exact .same rfl rfl
  · exact .posts rfl rfl

theorem Device.onlyPosts_faultTrack (d : Device) (t : Slot) (k : TrackFault) : d.OnlyPosts (d.faultTrack t k) :=
  .posts rfl rfl

/-! ## Segmentation (R96 to R110) -/

theorem Device.onlyPosts_blockClose (d : Device) (t : Slot) (x : TextTrack) : d.OnlyPosts (d.blockClose t x) := by
  unfold Device.blockClose
  split
  · exact .posts rfl rfl
  · exact .same rfl rfl

theorem Device.onlyPosts_makeCloses (n : Nat) (d : Device) (t : Slot) : d.OnlyPosts (Device.makeCloses n d t) := by
  induction n generalizing d with
  | zero => exact .same rfl rfl
  | succ n ih =>
    unfold Device.makeCloses
    split
    · exact .same rfl rfl
    · split
      · split
        · exact .before (ih _) rfl rfl
        · exact d.onlyPosts_blockClose t _
      · exact .same rfl rfl

theorem Device.OnlyPosts.decideClose {c d before : Device} (hd : c.OnlyPosts d) (hb : c.OnlyPosts before) (t : Slot) :
    c.OnlyPosts (d.decideClose t before) := by
  cases hx : (d.track t).text with
  | none => rwa [Device.decideClose, hx]
  | some x =>
    rcases Device.decideClose_cases hx before with ⟨i, -, -, e⟩ | e <;> rw [e]
    · exact hb.trans (before.onlyPosts_tellMonitor .cue i)
    · exact hd.trans (Device.onlyPosts_makeCloses _ d t)

theorem Device.onlyPosts_recordResponse (d : Device) (t : Slot) (o : Outstanding) (resp : Resp) :
    d.OnlyPosts (d.recordResponse t o resp) := by
  unfold Device.recordResponse
  split
  · exact .same rfl rfl
  · split
    · exact .same rfl rfl
    · split
      · split
        · exact onlyPosts_readingTrack (.same rfl rfl)
        · refine .trans ?_ (onlyPosts_readingTrack (onlyPosts_faultTrack ..))
          exact .posts rfl rfl
      · exact .same rfl rfl

theorem Device.OnlyPosts.resumeTrack {c d before : Device} (hd : c.OnlyPosts d) (hb : c.OnlyPosts before) (t : Slot)
    (x : TextTrack) (k : ResumeCause) : c.OnlyPosts (d.resumeTrack t x k before) := by
  refine .decideClose (hd.trans ?_) hb t
  exact .posts rfl rfl

theorem Device.OnlyPosts.afterAdvance {c d before : Device} (hd : c.OnlyPosts d) (hb : c.OnlyPosts before) (t : Slot)
    (x : TextTrack) : c.OnlyPosts (d.afterAdvance t x before) := by
  unfold Device.afterAdvance
  split
  case h_4 =>
    split
    · exact hd.resumeTrack hb t x .auto
    · exact hd
  case h_6 =>
    split
    · exact hd.decideClose hb t
    · split
      · exact hd.trans (d.onlyPosts_completeDrain t)
      · exact hd
  all_goals exact hd

theorem Device.onlyPosts_consumeSlot (d : Device) (t : Slot) (x : TextTrack) (i : Nat) :
    d.OnlyPosts (d.consumeSlot t x i) := by
  unfold Device.consumeSlot
  dsimp only
  split
  · split
    · exact d.onlyPosts_tellMonitor _ _
    · unfold Device.advanceConsume
      refine .afterAdvance ?_ (.same rfl rfl) t _
      exact .same rfl rfl
  · exact .same rfl rfl

theorem Device.onlyPosts_trailerReadIn (d : Device) (t : Slot) (x : TextTrack) (i : Nat) :
    d.OnlyPosts (d.trailerReadIn t x i) := by
  unfold Device.trailerReadIn
  split
  case h_4 => exact d.onlyPosts_consumeSlot t x i
  all_goals exact .same rfl rfl

theorem Device.onlyPosts_indexTrailerRead (d : Device) (t : Slot) (i : Nat) : d.OnlyPosts (d.indexTrailerRead t i) := by
  unfold Device.indexTrailerRead
  split
  · exact .same rfl rfl
  · refine onlyPosts_readingTrack ?_
    split
    · exact d.onlyPosts_trailerReadIn t _ i
    · exact .same rfl rfl

/-! ## Cue intake (R71 to R92) -/

theorem Device.onlyPosts_dropCue (d : Device) (t : Slot) (x : TextTrack) (a : Bool) (k : CueDrop) :
    d.OnlyPosts (d.dropCue t x a k) :=
  .posts rfl rfl

theorem Device.onlyPosts_takeCue (d : Device) (t : Slot) (x : TextTrack) (n : Nat) (r : CueRecord) :
    d.OnlyPosts (d.takeCue t x n r) := by
  unfold Device.takeCue
  split
  · exact d.onlyPosts_dropCue t x _ _
  · exact d.onlyPosts_tellMonitor _ _
  · unfold Device.acceptCue
    dsimp only
    split
    · refine .decideClose ?_ (.same rfl rfl) t
      exact .same rfl rfl
    · exact .same rfl rfl

theorem Device.onlyPosts_captureCue (d : Device) (t : Slot) (n : Nat) (r : CueRecord) :
    d.OnlyPosts (d.captureCue t n r) := by
  unfold Device.captureCue
  split
  · exact .same rfl rfl
  · refine onlyPosts_readingTrack ?_
    split
    case h_3 | h_4 => exact d.onlyPosts_takeCue t _ n r
    case h_6 => exact d.onlyPosts_dropCue t _ _ _
    all_goals exact .same rfl rfl

theorem Device.onlyPosts_partialCueWrite (d : Device) (t : Slot) : d.OnlyPosts (d.partialCueWrite t) := by
  unfold Device.partialCueWrite
  split
  · exact .same rfl rfl
  · refine onlyPosts_readingTrack ?_
    split <;> exact .same rfl rfl

/-! ## The lanes (R141 to R161) -/

theorem Device.onlyPosts_laneRefresh (d : Device) (t : Slot) : d.OnlyPosts (d.laneRefresh t) := by
  rcases d.laneRefresh_cases t with e | ⟨x, -, -, e⟩ <;> rw [e] <;> exact .same rfl rfl

theorem Device.onlyPosts_laneReads (d : Device) (t : Slot) : d.OnlyPosts (d.laneReads t) := by
  rcases d.laneReads_cases t with ⟨-, e⟩ | ⟨i, -, -, e⟩ | ⟨-, -, e⟩ <;> rw [e]
  · exact .same rfl rfl
  · exact d.onlyPosts_tellMonitor _ _
  · exact d.onlyPosts_laneRefresh t

theorem Device.onlyPosts_degradeLane (d : Device) (t : Slot) (x : ClipTrack) : d.OnlyPosts (d.degradeLane t x) := by
  unfold Device.degradeLane
  dsimp only
  split <;> exact .posts rfl rfl

theorem Device.onlyPosts_recoverLane (d : Device) (t : Slot) (x : ClipTrack) : d.OnlyPosts (d.recoverLane t x) := by
  unfold Device.recoverLane
  dsimp only
  split <;> exact .posts rfl rfl

theorem Device.onlyPosts_underrunBurst (d : Device) (t : Slot) (x : ClipTrack) : d.OnlyPosts (d.underrunBurst t x) := by
  unfold Device.underrunBurst
  dsimp only
  split
  · split
    · exact .before (onlyPosts_faultTrack ..) rfl rfl
    · exact .same rfl rfl
  · split
    · exact d.onlyPosts_degradeLane t _
    · exact .same rfl rfl

theorem Device.onlyPosts_countBurst (d : Device) (t : Slot) (s : Supply) (ends : Bool) :
    d.OnlyPosts (d.countBurst t s ends) := by
  unfold Device.countBurst
  split
  · exact .same rfl rfl
  · split
    · exact .same rfl rfl
    · split
      · split
        · exact d.onlyPosts_recoverLane t _
        · exact .same rfl rfl
      · exact .same rfl rfl
    · exact d.onlyPosts_underrunBurst t _

theorem Device.onlyPosts_endDrain (d : Device) (t : Slot) : d.OnlyPosts (d.endDrain t) := by
  unfold Device.endDrain
  split
  · exact d.onlyPosts_completeDrain t
  · exact .same rfl rfl

theorem Device.onlyPosts_forward (d : Device) (t : Slot) (x : ClipTrack) (p : Nat) (w : QueuedWrite) (s : Supply) :
    d.OnlyPosts (d.forward t x p w s) := by
  unfold Device.forward
  refine .trans (.trans ?_ (onlyPosts_laneRefresh ..)) (onlyPosts_endDrain ..)
  exact .before (onlyPosts_countBurst ..) rfl rfl

theorem Device.onlyPosts_hold (d : Device) (t : Slot) (x : ClipTrack) (p : Nat) (w : QueuedWrite) :
    d.OnlyPosts (d.hold t x p w) := by
  unfold Device.hold
  exact .before (onlyPosts_laneRefresh ..) rfl rfl

theorem Device.onlyPosts_tellThenAnswer (d : Device) (k : ParityCause) (n : Nat) (beats : List Beat) :
    d.OnlyPosts ((d.tellMonitor k n).answerHead beats) :=
  (d.onlyPosts_tellMonitor k n).andThen rfl rfl

theorem Device.onlyPosts_offerMapped (d : Device) (t : Slot) (x : ClipTrack) (p : Nat) (w : QueuedWrite) :
    d.OnlyPosts (d.offerMapped t x p w) := by
  unfold Device.offerMapped
  split
  · exact onlyPosts_tellThenAnswer ..
  · dsimp only
    split
    · exact onlyPosts_forward ..
    · split
      · exact onlyPosts_forward ..
      · split
        · exact onlyPosts_forward ..
        · exact onlyPosts_hold ..

theorem Device.onlyPosts_offer (d : Device) (t : Slot) (w : QueuedWrite) : d.OnlyPosts (d.offer t w) := by
  unfold Device.offer
  split
  · split
    · exact .same rfl rfl
    · split
      · unfold Device.offerLane
        dsimp only
        split
        · exact .same rfl rfl
        · exact onlyPosts_offerMapped ..
      · exact .same rfl rfl
  · exact onlyPosts_tellThenAnswer ..

theorem Device.onlyPosts_offerHead (d : Device) : d.OnlyPosts d.offerHead := by
  unfold Device.offerHead
  split
  · exact .same rfl rfl
  · split
    · split
      · exact .same rfl rfl
      · exact onlyPosts_offer ..
    · exact .same rfl rfl

theorem Device.onlyPosts_endHold (d : Device) (t : Slot) (x : ClipTrack) (h : HeldMapping) (w : QueuedWrite)
    (s : Supply) : d.OnlyPosts (d.endHold t x h w s) := by
  unfold Device.endHold
  split
  · exact onlyPosts_tellThenAnswer ..
  · exact onlyPosts_forward ..

theorem Device.onlyPosts_completionTest (d : Device) (t : Slot) : d.OnlyPosts (d.completionTest t) := by
  unfold Device.completionTest
  split
  · exact .same rfl rfl
  · split
    · exact .same rfl rfl
    · split
      · exact onlyPosts_endHold ..
      · exact .same rfl rfl

theorem Device.onlyPosts_timerExpires (d : Device) : d.OnlyPosts d.timerExpires := by
  unfold Device.timerExpires
  split
  · exact .same rfl rfl
  · unfold Device.expireHold
    split
    · exact .same rfl rfl
    · split
      · exact .same rfl rfl
      · exact .same rfl rfl
      · refine onlyPosts_readingTrack ?_
        split
        · exact onlyPosts_endHold ..
        · exact .same rfl rfl

theorem Device.onlyPosts_stageResponse (d : Device) (t : Slot) (x : ClipTrack) (r : SampleRead) (o : Outstanding)
    (resp : Resp) (data : List Word) : d.OnlyPosts (d.stageResponse t x r o resp data) := by
  refine onlyPosts_readingTrack ?_
  split
  · exact d.onlyPosts_tellMonitor _ _
  · refine .trans ?_ (onlyPosts_completionTest ..)
    exact .before (onlyPosts_laneRefresh ..) rfl rfl

theorem Device.onlyPosts_sampleResponse (d : Device) (l : LaneNo) (o : Outstanding) (resp : Resp) (data : List Word) :
    d.OnlyPosts (d.sampleResponse l o resp data) := by
  unfold Device.sampleResponse
  split
  · exact .same rfl rfl
  · split
    · exact .before (onlyPosts_laneReads ..) rfl rfl
    · split
      · exact onlyPosts_stageResponse ..
      · refine .trans ?_ (onlyPosts_stageResponse ..)
        exact .posts rfl rfl

/-! ## Clip intake (R115 to R127) -/

theorem Device.onlyPosts_dropClip (d : Device) (t : Slot) (x : ClipTrack) (a : Bool) (k : ClipDrop) :
    d.OnlyPosts (d.dropClip t x a k) :=
  .posts rfl rfl

theorem Device.onlyPosts_takeClip (d : Device) (t : Slot) (x : ClipTrack) (n : Nat) (r : ClipRecord) :
    d.OnlyPosts (d.takeClip t x n r) := by
  unfold Device.takeClip
  split
  · exact d.onlyPosts_dropClip t x _ _
  · exact d.onlyPosts_tellMonitor _ _
  · refine .trans ?_ (onlyPosts_completionTest ..)
    exact .before (onlyPosts_laneRefresh ..) rfl rfl

theorem Device.onlyPosts_captureClip (d : Device) (t : Slot) (n : Nat) (r : ClipRecord) :
    d.OnlyPosts (d.captureClip t n r) := by
  unfold Device.captureClip
  split
  · exact .same rfl rfl
  · refine onlyPosts_readingTrack ?_
    split
    case h_3 | h_5 => exact d.onlyPosts_takeClip t _ n r
    case h_6 => exact d.onlyPosts_dropClip t _ _ _
    all_goals exact .same rfl rfl

theorem Device.onlyPosts_partialClipWrite (d : Device) (t : Slot) : d.OnlyPosts (d.partialClipWrite t) := by
  unfold Device.partialClipWrite
  split
  · exact .same rfl rfl
  · refine onlyPosts_readingTrack ?_
    split <;> exact .same rfl rfl

/-! ## The through-path (spec 01) -/

theorem Device.onlyPosts_matchBurst (d : Device) (a : Addr) : d.OnlyPosts (d.matchBurst a).1 := by
  unfold Device.matchBurst
  split
  · exact .same rfl rfl
  · exact .foldl (fun e (j : EntryNo) => e.onlyPosts_tellMonitor .window j.val) _ d

theorem Device.onlyPosts_controlWrite (d : Device) (base addr : Addr) (beats : List Beat) :
    d.OnlyPosts (d.controlWrite base addr beats) := by
  unfold Device.controlWrite
  split
  · unfold Device.captureDirective
    dsimp only
    split
    · exact .same rfl rfl
    · exact .posts rfl rfl
  · exact .same rfl rfl

theorem Device.onlyPosts_intakeWrite (d : Device) (t : Slot) (k : WindowKind) (base addr : Addr) (beats : List Beat) :
    d.OnlyPosts (d.intakeWrite t k base addr beats) := by
  unfold Device.intakeWrite
  dsimp only
  split
  case h_3 =>
    split
    · exact onlyPosts_captureCue ..
    · exact onlyPosts_partialCueWrite ..
  case h_5 =>
    split
    · exact onlyPosts_captureClip ..
    · exact onlyPosts_partialClipWrite ..
  all_goals exact .same rfl rfl

theorem Device.onlyPosts_fence (d : Device) (id : Nat) (addr : Addr) (beats : List Beat) (w : Window) (o : Option Nat) :
    d.OnlyPosts (d.fence id addr beats w o) :=
  .posts rfl rfl

theorem Device.onlyPosts_ringWrite (d : Device) (id : Nat) (addr : Addr) (beats : List Beat) (m : WindowMatch) :
    d.OnlyPosts (d.ringWrite id addr beats m) := by
  unfold Device.ringWrite
  split
  · exact .same rfl rfl
  · split
    · exact onlyPosts_fence ..
    · exact .before (onlyPosts_intakeWrite ..) rfl rfl

theorem Device.onlyPosts_placeWrite (d : Device) (id : Nat) (addr : Addr) (beats : List Beat)
    (found : Option WindowMatch) : d.OnlyPosts (d.placeWrite id addr beats found) := by
  unfold Device.placeWrite
  split
  · exact .same rfl rfl
  · unfold Device.matchedWrite
    split
    · exact .before (onlyPosts_controlWrite ..) rfl rfl
    · exact onlyPosts_fence ..
    · exact onlyPosts_ringWrite ..
    · exact onlyPosts_fence ..
    · exact onlyPosts_ringWrite ..
    · exact .same rfl rfl

theorem Device.onlyPosts_writeArrives (d : Device) (id : Nat) (addr : Addr) (beats : List Beat) :
    d.OnlyPosts (d.writeArrives id addr beats) := by
  unfold Device.writeArrives
  split
  · exact .trans (.trans (onlyPosts_matchBurst ..) (onlyPosts_placeWrite ..)) (onlyPosts_offerHead _)
  · exact .same rfl rfl

theorem Device.onlyPosts_readArrives (d : Device) (id : Nat) (addr : Addr) (count : Nat) :
    d.OnlyPosts (d.readArrives id addr count) := by
  unfold Device.readArrives
  split
  · exact (d.onlyPosts_matchBurst addr).andThen rfl rfl
  · exact .same rfl rfl

theorem Device.onlyPosts_throughWrite (d : Device) (tag : Nat) (resp : Resp) : d.OnlyPosts (d.throughWrite tag resp) := by
  unfold Device.throughWrite
  split
  · exact .same rfl rfl
  · split <;> exact .same rfl rfl

/-! ## The other responses (R38, R104, R151) -/

theorem Device.onlyPosts_recordWritten (d : Device) (tag : Nat) (resp : Resp) :
    d.OnlyPosts (d.recordWritten tag resp) := by
  unfold Device.recordWritten
  split
  · exact .same rfl rfl
  · split
    case h_5 => exact .before (onlyPosts_recordResponse ..) rfl rfl
    all_goals exact .same rfl rfl

theorem Device.onlyPosts_prefetched (d : Device) (tag : Nat) (resp : Resp) (data : List Word) :
    d.OnlyPosts (d.prefetched tag resp data) := by
  unfold Device.prefetched
  split
  · exact .same rfl rfl
  · split
    case h_4 =>
      split
      · exact .before (onlyPosts_sampleResponse ..) rfl rfl
      · exact .same rfl rfl
    all_goals exact .same rfl rfl

theorem Device.onlyPosts_refuseOpen (d : Device) (t : Slot) (x : Directive) (r : RefusalReason) :
    d.OnlyPosts (d.refuseOpen t x r) :=
  .posts rfl rfl

theorem Device.onlyPosts_openAs (d : Device) (t : Slot) (x : Directive) (k : TrackKind) (l : Option LaneNo)
    (b : TrackBody) (bs : List Byte) : d.OnlyPosts (d.openAs t x k l b bs) :=
  .posts rfl rfl

theorem Device.onlyPosts_validate (d : Device) (t : Slot) (x : Directive) (bs : List Byte) :
    d.OnlyPosts (d.validate t x bs) := by
  unfold Device.validate
  split
  · exact onlyPosts_refuseOpen ..
  · split
    · exact onlyPosts_refuseOpen ..
    · unfold Device.takeDescriptor
      split
      · exact onlyPosts_openAs ..
      · split
        · exact onlyPosts_refuseOpen ..
        · exact onlyPosts_openAs ..

theorem Device.onlyPosts_descriptorAnswer (d : Device) (t : Slot) (n : BitVec 16) (resp : Resp) (data : List Word) :
    d.OnlyPosts (d.descriptorAnswer t n resp data) := by
  refine onlyPosts_readingTrack ?_
  split
  case h_1 =>
    split
    · split
      · exact onlyPosts_validate ..
      · exact onlyPosts_refuseOpen ..
    · exact .same rfl rfl
  all_goals exact .same rfl rfl

theorem Device.onlyPosts_descriptorArrives (d : Device) (tag : Nat) (resp : Resp) (data : List Word) :
    d.OnlyPosts (d.descriptorArrives tag resp data) := by
  unfold Device.descriptorArrives
  split
  · exact .same rfl rfl
  · split
    case h_3 =>
      split
      · exact .before (onlyPosts_descriptorAnswer ..) rfl rfl
      · exact .same rfl rfl
    all_goals exact .same rfl rfl

/-! ## The arbiter (R15) -/

theorem Device.onlyPosts_grantThrough (d : Device) : d.OnlyPosts d.grantThrough := by
  unfold Device.grantThrough
  split
  · exact .same rfl rfl
  · exact .before (onlyPosts_offerHead _) rfl rfl
  · exact .same rfl rfl

theorem Device.onlyPosts_issueSamples (d : Device) (who : Requester) (l : LaneNo) :
    d.OnlyPosts (d.issueSamples who l) := by
  unfold Device.issueSamples
  split
  · exact .same rfl rfl
  · exact .before (onlyPosts_laneReads ..) rfl rfl

/-- A grant to any requester but the report writer. -/
theorem Device.onlyPosts_grantTo (d : Device) {r : Requester} (hr : r ≠ .reportWriter) : d.OnlyPosts (d.grantTo r) := by
  cases r with
  | urgentPrefetch =>
    show d.OnlyPosts d.grantUrgent
    unfold Device.grantUrgent
    split
    · exact .same rfl rfl
    · exact onlyPosts_issueSamples ..
  | throughPath => exact d.onlyPosts_grantThrough
  | recordWriter =>
    show d.OnlyPosts d.grantRecord
    unfold Device.grantRecord
    repeat' split
    all_goals exact .same rfl rfl
  | descriptorReads =>
    show d.OnlyPosts d.grantDescriptor
    unfold Device.grantDescriptor
    repeat' split
    all_goals exact .same rfl rfl
  | ordinaryPrefetch =>
    show d.OnlyPosts d.grantOrdinary
    unfold Device.grantOrdinary
    split
    · exact .same rfl rfl
    · exact .before (onlyPosts_issueSamples ..) rfl rfl
  | reportWriter => exact absurd rfl hr

/-! ## Directives (spec 02, spec 03) -/

/-- A directive's taking only posts where the directive, carried out after its entry has left the queue, only posts. -/
theorem Device.onlyPosts_takeDirective {k : DirectiveKind} {run : Device → Directive → Device}
    (hr : ∀ (e : Device) x, e.OnlyPosts (run e x)) (d : Device) : d.OnlyPosts (d.takeDirective k run) := by
  rcases d.takeDirective_cases k run with ⟨q, rest, -, -, -, -, e⟩ | e | e <;> rw [e]
  · exact .before (hr _ _) rfl rfl
  · exact .before (onlyPosts_tellMonitor ..) rfl rfl
  · exact .same rfl rfl

theorem Device.onlyPosts_dispatch {d : Device} {run : Slot → TrackContext → Device}
    (hr : ∀ t, d.OnlyPosts (run t (d.track t))) (x : Directive) : d.OnlyPosts (d.dispatch x run) := by
  unfold Device.dispatch
  split
  · exact d.onlyPosts_refuse x _
  · split
    · exact d.onlyPosts_refuse x _
    · exact onlyPosts_readingTrack (hr _)

theorem Device.onlyPosts_onText {d : Device} {run : TextTrack → Device} (hr : ∀ y, d.OnlyPosts (run y)) (x : Directive)
    (c : TrackContext) : d.OnlyPosts (d.onText x c run) := by
  unfold Device.onText
  split
  case h_5 => exact hr _
  all_goals exact d.onlyPosts_refuse x _

theorem Device.onlyPosts_inState {d run : Device} (hr : d.OnlyPosts run) (x : Directive) (b : Bool) :
    d.OnlyPosts (d.inState x b run) := by
  unfold Device.inState
  split
  · exact hr
  · exact d.onlyPosts_refuse x _

theorem Device.onlyPosts_openTrack (d : Device) (x : Directive) (t : Slot) (c : TrackContext) :
    d.OnlyPosts (d.openTrack x t c) := by
  unfold Device.openTrack
  split
  · exact d.onlyPosts_refuse x _
  · split
    · exact d.onlyPosts_refuse x _
    · exact .same rfl rfl

theorem Device.onlyPosts_drainText (d : Device) (t : Slot) (y : TextTrack) : d.OnlyPosts (d.drainText t y) := by
  unfold Device.drainText
  split
  · exact d.onlyPosts_tellMonitor _ _
  · refine .decideClose ?_ (.same rfl rfl) t
    exact .same rfl rfl

theorem Device.onlyPosts_drainClips (d : Device) (t : Slot) (y : ClipTrack) (b : Bool) :
    d.OnlyPosts (d.drainClips t y b) := by
  unfold Device.drainClips
  exact .before (onlyPosts_endDrain ..) rfl rfl

theorem Device.onlyPosts_closeTrack (d : Device) (x : Directive) (t : Slot) (c : TrackContext) :
    d.OnlyPosts (d.closeTrack x t c) := by
  unfold Device.closeTrack
  split
  case h_3 | h_6 => exact onlyPosts_drainText ..
  case h_4 | h_9 => exact onlyPosts_drainClips ..
  all_goals exact d.onlyPosts_refuse x _

theorem Device.onlyPosts_flushTrack (d : Device) (x : Directive) (t : Slot) (c : TrackContext) :
    d.OnlyPosts (d.flushTrack x t c) := by
  refine onlyPosts_onText (fun y => onlyPosts_inState ?_ x _) x c
  split
  · exact d.onlyPosts_refuse x _
  · unfold Device.flushTo
    dsimp only
    split
    · refine .decideClose ?_ (.same rfl rfl) t
      exact .same rfl rfl
    · exact .same rfl rfl

theorem Device.onlyPosts_abortTrack (d : Device) (x : Directive) (t : Slot) (c : TrackContext) :
    d.OnlyPosts (d.abortTrack x t c) := by
  unfold Device.abortTrack
  split
  · exact d.onlyPosts_refuse x _
  · exact .same rfl rfl

theorem Device.onlyPosts_retuneTrack (d : Device) (x : Directive) (t : Slot) (c : TrackContext) :
    d.OnlyPosts (d.retuneTrack x t c) := by
  refine onlyPosts_onText (fun y => onlyPosts_inState ?_ x _) x c
  split
  · exact d.onlyPosts_refuse x _
  · exact .same rfl rfl

theorem Device.onlyPosts_resumeDirective (d : Device) (x : Directive) (t : Slot) (c : TrackContext) :
    d.OnlyPosts (d.resumeDirective x t c) := by
  refine onlyPosts_onText (fun y => onlyPosts_inState ?_ x _) x c
  split
  · exact .resumeTrack (.same rfl rfl) (.same rfl rfl) t y .resume
  · exact d.onlyPosts_refuse x _

theorem Device.onlyPosts_clearBypass (d : Device) (x : Directive) : d.OnlyPosts (d.clearBypass x) := by
  unfold Device.clearBypass
  split
  · exact .same rfl rfl
  · exact d.onlyPosts_refuse x _

/-- A track directive, by what it does to a slot. -/
theorem Device.onlyPosts_trackDirective {run : Device → Directive → Slot → TrackContext → Device}
    (hr : ∀ (e : Device) x t c, e.OnlyPosts (run e x t c)) (k : DirectiveKind) (d : Device) :
    d.OnlyPosts (d.takeDirective k fun e x => e.dispatch x (run e x)) :=
  onlyPosts_takeDirective (fun e x => onlyPosts_dispatch (fun t => hr e x t _) x) d

end Sys2Proof.Machine

/-! PROOFS. What is unread, in writing and queued fits into the report ring after every step (R162, R163). -/

namespace Sys2Proof.Safety

open Sys2Proof Sys2Proof.Machine

theorem RingFits.onlyPosts {d e : Device} (h : RingFits d) (k : d.OnlyPosts e) : RingFits e :=
  h.of_reports k.current (k.fits h.fits)

/-- An OK answer to a watched read of the report ring moves its read point; one of an index ring only posts (R8). -/
theorem RingFits.trailerRead {d : Device} (h : RingFits d) (w : Window) (n : Nat) : RingFits (d.trailerRead w n) := by
  unfold Device.trailerRead
  split
  case h_2 => exact h.reportTrailerRead n
  case h_4 =>
    split
    · exact h
    · exact h.onlyPosts (d.onlyPosts_indexTrailerRead _ n)
  all_goals exact h

theorem RingFits.watchEvents {d : Device} (h : RingFits d) (found : Option WindowMatch) (a : Addr) (count : Nat) :
    RingFits (d.watchEvents found a count) := by
  unfold Device.watchEvents
  split
  · exact h
  · next m =>
    generalize coveredTrailers m.window a count = l
    induction l generalizing d with
    | nil => exact h
    | cons n l ih => exact ih (h.trailerRead m.window n)

theorem RingFits.throughRead {d : Device} (h : RingFits d) (tag : Nat) (resp : Resp) (data : List Word) :
    RingFits (d.throughRead tag resp data) := by
  unfold Device.throughRead
  split
  · exact h
  · next o _ =>
    split
    case h_1 id found _ =>
      split
      · unfold Device.readAnswered
        split
        · have answered : RingFits (d.answered o.tag) := h
          exact answered.watchEvents found o.addr o.count
        · exact h
      · exact h
    all_goals exact h

theorem RingFits.reportWritten {d : Device} (h : RingFits d) (tag : Nat) (resp : Resp) :
    RingFits (d.reportWritten tag resp) := by
  unfold Device.reportWritten
  split
  · exact h
  · split
    case h_6 =>
      have answered : RingFits (d.answered tag) := h
      exact answered.reportResponse tag resp
    all_goals exact h

theorem RingFits.grant {d : Device} (h : RingFits d) : RingFits d.grant := by
  unfold Device.grant
  split
  · split
    · exact h
    · next r _ =>
      have counted : RingFits (d.countGrant r) := h
      by_cases hr : r = .reportWriter
      · rw [hr] at counted ⊢
        exact counted.grantReport
      · exact counted.onlyPosts (Device.onlyPosts_grantTo _ hr)
  · exact h

theorem RingFits.takeSetReportRing {d : Device} (h : RingFits d) :
    RingFits (d.takeDirective .setReportRing fun e x => e.setReportRing x) := by
  have dequeued : RingFits d.dequeued := h
  rcases d.takeDirective_cases .setReportRing fun e x => e.setReportRing x with ⟨q, rest, -, -, -, -, e⟩ | e | e <;> rw [e]
  · exact dequeued.setReportRing q.directive
  · exact dequeued.onlyPosts (Device.onlyPosts_tellMonitor ..)
  · exact h

/-! ## Events and commands -/

theorem ringFits_dropped {d : Device} (hc : d.engine.current = none) (hr : d.reports = ⟨none, [], none, 0⟩) :
    RingFits d := by
  refine .of_idle hc ?_
  rw [hr]
  exact ⟨Nat.zero_le _, fun r e => nomatch e⟩

theorem RingFits.ran {s s' : State} {work : Device → Device} (h : RingFits s.dev)
    (hw : ∀ d, RingFits d → RingFits (work d)) (e : s.ran work = .next s') : RingFits s'.dev := by
  cases e
  show RingFits (s.dev.event work)
  unfold Device.event
  split
  · exact hw _ h
  · exact h

/-- A command whose work only posts. -/
theorem RingFits.ran_onlyPosts {s s' : State} {work : Device → Device} (h : RingFits s.dev)
    (hw : ∀ d : Device, d.OnlyPosts (work d)) (e : s.ran work = .next s') : RingFits s'.dev :=
  h.ran (fun d hd => hd.onlyPosts (hw d)) e

/-- An upstream burst that arrives: refused where it is none, turned away in reset, and else an event that only posts. -/
theorem RingFits.arrival {s s' : State} {ok : Bool} {id : Nat} {work : Device → Device} (h : RingFits s.dev)
    (hw : ∀ d : Device, d.OnlyPosts (work d))
    (e : (if ok then (if s.dev.resetN then s.ran work else .next { s with dev := s.dev.turnedAway id })
      else .refused .notABurst) = Host.Outcome.next s') : RingFits s'.dev := by
  split at e
  · split at e
    · exact h.ran_onlyPosts hw e
    · cases e; exact h
  · cases e

theorem RingFits.exec {c : Instr} {s s' : State} (h : RingFits s.dev) (e : exec c s = .next s') : RingFits s'.dev := by
  cases c with
  | resetAssert => cases e; exact ringFits_dropped rfl rfl
  | resetRelease cwb =>
    change execResetRelease cwb s = .next s' at e
    unfold execResetRelease at e
    split at e <;> cases e
    · exact h
    · exact ringFits_dropped rfl rfl
  | upstreamWrite id addr beats => exact h.arrival (fun d => d.onlyPosts_writeArrives id addr beats) e
  | upstreamRead id addr count => exact h.arrival (fun d => d.onlyPosts_readArrives id addr count) e
  | memoryGrant => exact h.ran (fun _ hd => hd.grant) e
  | holdTimerExpiry => exact h.ran_onlyPosts Device.onlyPosts_timerExpires e
  | prefetchResponse tag resp data => exact h.ran_onlyPosts (fun d => d.onlyPosts_prefetched tag resp data) e
  | throughReadResponse tag resp data => exact h.ran (fun _ hd => hd.throughRead tag resp data) e
  | throughWriteResponse tag resp => exact h.ran_onlyPosts (fun d => d.onlyPosts_throughWrite tag resp) e
  | descriptorResponse tag resp data => exact h.ran_onlyPosts (fun d => d.onlyPosts_descriptorArrives tag resp data) e
  | recordWriteResponse tag resp => exact h.ran_onlyPosts (fun d => d.onlyPosts_recordWritten tag resp) e
  | reportBegin => exact h.ran (fun _ hd => hd.beginReport) e
  | reportWriteResponse tag resp => exact h.ran (fun _ hd => hd.reportWritten tag resp) e
  | openTrack => exact h.ran_onlyPosts (Device.onlyPosts_trackDirective Device.onlyPosts_openTrack _) e
  | closeTrack => exact h.ran_onlyPosts (Device.onlyPosts_trackDirective Device.onlyPosts_closeTrack _) e
  | flushTrack => exact h.ran_onlyPosts (Device.onlyPosts_trackDirective Device.onlyPosts_flushTrack _) e
  | abortTrack => exact h.ran_onlyPosts (Device.onlyPosts_trackDirective Device.onlyPosts_abortTrack _) e
  | retuneTrack => exact h.ran_onlyPosts (Device.onlyPosts_trackDirective Device.onlyPosts_retuneTrack _) e
  | resumeTrack => exact h.ran_onlyPosts (Device.onlyPosts_trackDirective Device.onlyPosts_resumeDirective _) e
  | setReportRing => exact h.ran (fun _ hd => hd.takeSetReportRing) e
  | clearBypass => exact h.ran_onlyPosts (Device.onlyPosts_takeDirective Device.onlyPosts_clearBypass) e
  | unknownDirective =>
    exact h.ran_onlyPosts (Device.onlyPosts_takeDirective fun d x => d.onlyPosts_refuse x .unknown) e

end Sys2Proof.Safety

/-- Settles O58: every command keeps the ring's load, the report writer's own events by their arithmetic and every other one
because it only posts. -/
theorem stepKeepsTheReportRing : Obligations.StepKeepsTheReportRing := by
  unfold Obligations.StepKeepsTheReportRing
  rintro ⟨pending, d⟩ s' h e
  cases pending with
  | nil => cases e; exact h
  | cons c rest => exact Sys2Proof.Safety.RingFits.exec (c := c) (s := ⟨rest, d⟩) h e

/-! PROOFS. The directive engine (spec 02): the taking of a directive, the checks of R27, CLEAR BYPASS, the entry into BYPASS for
a damaged queue entry, and SET REPORT RING. -/

namespace Sys2Proof.Safety

open Sys2Proof Sys2Proof.Machine

/-! ## The taking of a directive (R25) -/

theorem dequeued_eq_taken {d : Device} {q : QueuedDirective} {rest : List QueuedDirective}
    (hq : d.engine.queue = q :: rest) : Device.dequeued { d with ports := [] } = Taken d rest := by
  simp [Device.dequeued, Taken, hq]

theorem ran_takeDirective {s : State} {k : DirectiveKind} {x : Directive} {rest : List QueuedDirective}
    (h : Taking s.dev k x rest) (run : Device → Directive → Device) :
    s.ran (fun d => d.takeDirective k run) = .next { s with dev := (run (Taken s.dev rest) x).settle } := by
  obtain ⟨hreset, hidle, hq, hk⟩ := h
  rw [State.ran_released hreset, Device.takeDirective_good (d := { s.dev with ports := [] }) hidle hq hk rfl,
    dequeued_eq_taken hq]

theorem ran_takeDirective_damaged {s : State} {k : DirectiveKind} {x : Directive} {rest : List QueuedDirective}
    (hreset : s.dev.resetN = true) (hidle : s.dev.engine.current = none) (hq : s.dev.engine.queue = ⟨x, false⟩ :: rest)
    (hk : directiveKind x.kind = k) (run : Device → Directive → Device) :
    s.ran (fun d => d.takeDirective k run) =
      .next { s with dev := ((Taken s.dev rest).tellMonitor .queue 0).settle } := by
  rw [State.ran_released hreset, Device.takeDirective_bad (d := { s.dev with ports := [] }) hidle hq hk rfl,
    dequeued_eq_taken hq]

/-- The command of a track directive takes it and dispatches it to its slot (R29). -/
theorem exec_trackCommand {k : DirectiveKind} {c : Instr} (h : (k, c) ∈ trackCommands) :
    ∃ run : Device → Directive → Slot → TrackContext → Device, ∀ s,
      exec c s = s.ran fun d => d.takeDirective k fun e x => e.dispatch x (run e x) := by
  simp only [trackCommands, List.mem_cons, List.not_mem_nil, or_false, Prod.mk.injEq] at h
  obtain ⟨rfl, rfl⟩ | ⟨rfl, rfl⟩ | ⟨rfl, rfl⟩ | ⟨rfl, rfl⟩ | ⟨rfl, rfl⟩ | ⟨rfl, rfl⟩ := h
  · exact ⟨Device.openTrack, fun _ => rfl⟩
  · exact ⟨Device.closeTrack, fun _ => rfl⟩
  · exact ⟨Device.flushTrack, fun _ => rfl⟩
  · exact ⟨Device.abortTrack, fun _ => rfl⟩
  · exact ⟨Device.retuneTrack, fun _ => rfl⟩
  · exact ⟨Device.resumeDirective, fun _ => rfl⟩

/-- Every directive's command takes an entry of its own kind. -/
theorem exec_directiveCommand {k : DirectiveKind} {c : Instr} (h : (k, c) ∈ directiveCommands) :
    ∃ run : Device → Directive → Device, ∀ s, exec c s = s.ran fun d => d.takeDirective k run := by
  rcases List.mem_append.1 h with h | h
  · obtain ⟨run, hrun⟩ := exec_trackCommand h
    exact ⟨_, hrun⟩
  · simp only [List.mem_cons, List.not_mem_nil, or_false, Prod.mk.injEq] at h
    obtain ⟨rfl, rfl⟩ | ⟨rfl, rfl⟩ | ⟨rfl, rfl⟩ := h
    · exact ⟨Device.setReportRing, fun _ => rfl⟩
    · exact ⟨Device.clearBypass, fun _ => rfl⟩
    · exact ⟨fun e x => e.refuse x .unknown, fun _ => rfl⟩

theorem slotOfField_eq_none {b : Byte} (h : 15 < b.toNat) : slotOfField b = none :=
  dif_neg (by omega)

/-! ## CLEAR BYPASS (R33) -/

theorem clearBypass_bypass {d : Device} (h : d.engine.mode = .bypass) (x : Directive) :
    d.clearBypass x = { d with engine := { d.engine with mode := .normal }, monitor := ⟨none, 0⟩ } := by
  simp [Device.clearBypass, h]

theorem clearBypass_normal {d : Device} (h : d.engine.mode = .normal) (x : Directive) :
    d.clearBypass x = d.refuse x .notBypass := by
  simp [Device.clearBypass, h]

theorem anyWritten_iff {w : ReportWriter} : w.anyWritten = true ↔ ∃ r, w.ring = some r ∧ .written ∈ r.slots := by
  unfold ReportWriter.anyWritten
  cases w.ring <;> simp

theorem attnLevel_iff {d : Device} (h : d.resetN = true) :
    d.attnLevel = true ↔ d.engine.mode = .bypass ∨ ∃ r, d.reports.ring = some r ∧ .written ∈ r.slots := by
  simp [Device.attnLevel, h, anyWritten_iff]

/-! ## The entry into BYPASS (R174, R175) -/

theorem matchNames_iff {p : EntryNo → Bool} {found : Option WindowMatch} :
    matchNames p found = true ↔ ∃ m, found = some m ∧ p m.entry = true := by
  cases found <;> simp [matchNames]

theorem unmatched_tag (p : EntryNo → Bool) (o : Outstanding) : (o.unmatched p).tag = o.tag := by
  unfold Outstanding.unmatched
  split
  · split <;> rfl
  all_goals rfl

theorem bypassWindows_entry (straps : BitVec 16) (w : ReportWriter) (i : EntryNo) :
    (bypassWindows straps w)[i.val] =
      if i = 0 then some ⟨controlWindow straps, true⟩
      else if i = 1 then w.ring.map fun r => ⟨⟨r.base, r.size, .report, none⟩, true⟩
      else none := by
  have hw : w.windowEntry = w.ring.map fun r => ⟨⟨r.base, r.size, .report, none⟩, true⟩ := by
    unfold ReportWriter.windowEntry
    cases w.ring <;> rfl
  have h0 : i = 0 ↔ 0 = i.val := by rw [Fin.ext_iff]; exact eq_comm
  have h1 : i = 1 ↔ 1 = i.val := by rw [Fin.ext_iff]; exact eq_comm
  simp only [bypassWindows, Vector.getElem_set, Vector.getElem_replicate, hw, h0, h1]
  split
  · next h => simp [← h]
  · rfl

theorem enterBypass_writeQueue (d : Device) (k : ParityCause) (n : Nat) :
    (d.enterBypass k n).writeQueue = revertedQueue d := by
  show (d.writeQueue.map fun w => if matchNames _ w.found then w.reverted else w) = revertedQueue d
  simp only [matchNames_iff, decide_eq_true_eq]
  rfl

/-- BYPASS entry, with what ends every event, has the effects of R174 and R175. -/
theorem enteredBypass_settle {d : Device} (h : d.resetN = true) (k : ParityCause) (n : Nat) :
    EnteredBypass d (d.enterBypass k n).settle k n := by
  refine ⟨rfl, rfl, ?track, ?cue, ?clip, bypassWindows_entry d.strapLatch d.reports, rfl, ?tags, ?attn⟩
  case track => exact d.enterBypass_track k n
  case cue => exact d.enterBypass_cue k n
  case clip => exact d.enterBypass_clip k n
  case tags =>
    show (d.outstanding.map _).map _ = _
    rw [List.map_map]
    exact List.map_congr_left fun o _ => unmatched_tag _ o
  case attn => exact (attnLevel_iff (d := d.enterBypass k n) h).2 (.inl rfl)

/-! ## SET REPORT RING (R30 to R32) -/

theorem ringOk_iff {x : Directive} :
    x.ringOk = true ↔ x.address1.toNat % 4096 = 0 ∧
      (x.sizeKiB = 4 ∨ x.sizeKiB = 8 ∨ x.sizeKiB = 12 ∨ x.sizeKiB = 16) ∧
        x.address1.toNat + 1024 * x.sizeKiB ≤ 2 ^ 40 := by
  simp [Directive.ringOk, and_assoc]

theorem setReportRing_refused {d : Device} {x : Directive} (h : x.ringOk = false) :
    d.setReportRing x = d.refuse x .ring := by
  simp [Device.setReportRing, h]

theorem setReportRing_waits {d : Device} {x : Directive} (h : x.ringOk = true) (hw : d.reports.writing.isSome = true) :
    d.setReportRing x = { d with engine := { d.engine with current := some x } } := by
  obtain ⟨w, hw⟩ := Option.isSome_iff_exists.1 hw
  simp [Device.setReportRing, h, hw]

theorem setReportRing_switches {d : Device} {x : Directive} (h : x.ringOk = true) (hw : d.reports.writing = none) :
    d.setReportRing x = d.switchRing x := by
  simp [Device.setReportRing, h, hw]

theorem engine_idle {e : Engine} (h : e.current = none) : { e with current := none } = e := by
  cases e
  cases h
  rfl

theorem idled_of_idle {d : Device} (h : d.engine.current = none) : d.idled = d := by
  rw [Device.idled, engine_idle h]

/-- The overlap test of R4 read on the live windows. -/
theorem rangeFree_some_iff {d : Device} {j : EntryNo} {base : Addr} {size : Nat} :
    d.rangeFree (some j) base size = true ↔ ∀ (i : EntryNo) (w : Window), i ≠ j → liveWindow d i = some w →
      rangesOverlap base.toNat size w.base.toNat w.size = false := by
  rw [Device.rangeFree_iff]
  constructor
  · intro h i w hi hw
    obtain ⟨e, he, rfl⟩ := Option.map_eq_some_iff.1 hw
    exact h i e he (by simpa using hi.symm)
  · intro h i e he hi
    exact h i e.window (by simpa using fun r : i = j => hi (congrArg some r.symm)) (by simp [liveWindow, he])

theorem switchRing_overlap {d : Device} {x : Directive} (hidle : d.engine.current = none)
    (h : d.rangeFree (some 1) x.address1 (1024 * x.sizeKiB) = false) : d.switchRing x = d.refuse x .overlap := by
  simp only [Device.switchRing, h, Bool.false_eq_true, if_false]
  exact idled_of_idle hidle

/-- The device after the switch of R32: the old ring's window removed, the new one installed, the new ring set and the engine
IDLE. -/
def switchedTo (d : Device) (x : Directive) : Device :=
  let e := (d.removeWindows fun i => decide (i = 1)).install 1 x.reportWindow
  Device.idled { e with
    reports := { e.reports with ring := some (ReportRing.fresh x.address1 (1024 * x.sizeKiB)) } }

theorem switchRing_free {d : Device} {x : Directive}
    (h : d.rangeFree (some 1) x.address1 (1024 * x.sizeKiB) = true) : d.switchRing x = switchedTo d x := by
  simp only [Device.switchRing, h, if_true]
  rfl

theorem switchedTo_entry (d : Device) (x : Directive) (i : EntryNo) :
    (switchedTo d x).windows[i.val] = if i = 1 then some ⟨x.reportWindow, true⟩ else d.windows[i.val] := by
  show ((d.removeWindows fun i => decide (i = 1)).install 1 x.reportWindow).windows[i.val] = _
  rw [Device.install_entry, Device.removeWindows_entry]
  split
  · rfl
  · next h => simp [h]

theorem switchedTo_attnLevel {d : Device} (h : d.resetN = true) (x : Directive) :
    (switchedTo d x).attnLevel = true ↔ d.engine.mode = .bypass := by
  rw [attnLevel_iff (d := switchedTo d x) h]
  constructor
  · rintro (hm | ⟨r, hr, hs⟩)
    · exact hm
    · obtain rfl := Option.some.inj hr
      exact absurd (List.eq_of_mem_replicate hs) (by decide)
  · exact .inl

theorem switchedTo_readList (d : Device) (x : Directive) :
    (switchedTo d x).readList = d.readList.map fun r =>
      if ∃ m, r.found = some m ∧ m.entry = 1 then { r with found := none } else r := by
  show (d.readList.map fun r => if matchNames _ r.found then { r with found := none } else r) = _
  simp only [matchNames_iff, decide_eq_true_eq]

end Sys2Proof.Safety

section
open Sys2Proof Sys2Proof.Machine Sys2Proof.Safety

/-- Settles O13: each command takes its directive, and the checks of `dispatch` and of CLEAR BYPASS answer. -/
theorem engineChecksAndClearsBypass : Obligations.EngineChecksAndClearsBypass := by
  refine ⟨fun s x rest h => ran_takeDirective h _, fun s x rest k c h hc => ?track, fun s x rest h => ⟨?_, ?_⟩⟩
  case track =>
    obtain ⟨run, hrun⟩ := exec_trackCommand hc
    rw [hrun, ran_takeDirective h]
    refine ⟨fun hm => ?_, fun hm hs => ?_⟩
    · rw [Device.dispatch_bypass (d := Taken s.dev rest) hm]
    · rw [Device.dispatch_badSlot (d := Taken s.dev rest) hm (slotOfField_eq_none hs)]
  · intro hm
    have he : exec .clearBypass s = _ := ran_takeDirective h Device.clearBypass
    rw [clearBypass_bypass (d := Taken s.dev rest) hm] at he
    refine ⟨he, fun e h' => ?_⟩
    obtain rfl : _ = e := congrArg State.dev (Host.Outcome.next.inj (he.symm.trans h'))
    rw [Device.settle_attn, attnLevel_iff (by exact h.1)]
    refine ⟨?_, .inr⟩
    rintro (hn | hr)
    · cases hn
    · exact hr
  · intro hm
    have he : exec .clearBypass s = _ := ran_takeDirective h Device.clearBypass
    rwa [clearBypass_normal (d := Taken s.dev rest) hm] at he

/-- Settles O14: the taking of a damaged entry tells the monitor, which in NORMAL mode enters BYPASS. -/
theorem damagedDirectiveEntersBypass : Obligations.DamagedDirectiveEntersBypass := by
  intro s x rest k c hreset hidle hq hk hc hm
  obtain ⟨run, hrun⟩ := exec_directiveCommand hc
  refine ⟨((Taken s.dev rest).enterBypass .queue 0).settle, ?_, enteredBypass_settle (d := Taken s.dev rest) hreset .queue 0,
    enterBypass_writeQueue (Taken s.dev rest) .queue 0⟩
  rw [hrun, ran_takeDirective_damaged hreset hidle hq hk, Device.tellMonitor_normal (d := Taken s.dev rest) hm]

/-- Settles O16: the checks of R30, the wait of R31 and the two outcomes of the switch of R32. -/
theorem setReportRingChecksThenSwitches : Obligations.SetReportRingChecksThenSwitches := by
  rintro s x rest _ _ h rfl rfl
  have he : exec .setReportRing s = _ := ran_takeDirective h Device.setReportRing
  obtain ⟨hreset, hidle, -, -⟩ := h
  refine ⟨fun hbad => ?ring, fun hbase hsize hend => ?_⟩
  case ring =>
    have hx : x.ringOk = false := by
      rw [← Bool.not_eq_true, ringOk_iff]
      rintro ⟨hbase, hsize, hend⟩
      rcases hbad with hb | hs | hb
      · exact hb hbase
      · obtain ⟨h4, h8, h12, h16⟩ := hs
        exact hsize.elim h4 (·.elim h8 (·.elim h12 h16))
      · exact absurd hend (Nat.not_le.2 hb)
    rw [he, setReportRing_refused hx]
  have hx : x.ringOk = true := ringOk_iff.2 ⟨hbase, hsize, hend⟩
  refine ⟨fun hw => ?waits, fun hw => ?_⟩
  case waits => rw [he, setReportRing_waits (d := Taken s.dev rest) hx hw]; rfl
  rw [he, setReportRing_switches (d := Taken s.dev rest) hx hw]
  refine ⟨fun ⟨i, w, hi, hlive, hov⟩ => ?overlap, fun hfree => ?switch⟩
  case overlap =>
    have hf : (Taken s.dev rest).rangeFree (some 1) x.address1 (1024 * x.sizeKiB) = false := by
      rw [← Bool.not_eq_true, rangeFree_some_iff]
      intro hall
      exact Bool.false_ne_true ((hall i w hi hlive).symm.trans hov)
    rw [switchRing_overlap (d := Taken s.dev rest) hidle hf]
  case switch =>
    have hf : (Taken s.dev rest).rangeFree (some 1) x.address1 (1024 * x.sizeKiB) = true := rangeFree_some_iff.2 hfree
    refine ⟨(switchedTo (Taken s.dev rest) x).settle, by rw [switchRing_free hf], rfl,
      switchedTo_entry (Taken s.dev rest) x, switchedTo_attnLevel (d := Taken s.dev rest) hreset x,
      engine_idle (e := { s.dev.engine with queue := rest }) hidle, switchedTo_readList (Taken s.dev rest) x,
      rfl, rfl, rfl, rfl, rfl⟩

end

/-! PROOFS. Control window writes (spec 02 section 2.3): the write joins the write queue like an unmatched one, and the directive
engine captures it or counts it. -/

namespace Sys2Proof.Safety

open Sys2Proof Sys2Proof.Machine

/-- The write queue after a write with this match has joined it and the head has been dealt with, for a write that is offered to
no lane (R9, R10). -/
def forwardedQueue (d : Device) (id : Nat) (addr : Addr) (beats : List Beat) (m : WindowMatch) : List QueuedWrite :=
  d.writeQueue ++
    [⟨id, addr, beats, beats, some m, d.nextArrival, if d.writeQueue.isEmpty then .ready else .waiting⟩]

theorem lane_of_control {w : QueuedWrite} {m : WindowMatch} (hf : w.found = some m) (hm : m.window.kind = .control) :
    w.lane = none := by
  simp [QueuedWrite.lane, hf, hm]

theorem writeMatch_control {m : WindowMatch} (hm : m.window.kind = .control) (mode : Mode) :
    writeMatch mode (some m) = some m := by
  cases mode <;> simp [writeMatch, hm]

/-- The head is dealt with after a control write has joined the tail: it changes only where the write is itself the head. -/
theorem offerHead_control {d e : Device} {id : Nat} {addr : Addr} {beats : List Beat} {m : WindowMatch}
    (hd : ∀ w ∈ d.writeQueue.head?, w.status ≠ .waiting) (hm : m.window.kind = .control)
    (hq : e.writeQueue = d.writeQueue ++ [⟨id, addr, beats, beats, some m, d.nextArrival, .waiting⟩]) :
    e.offerHead = { e with writeQueue := forwardedQueue d id addr beats m } := by
  unfold forwardedQueue
  cases hw : d.writeQueue with
  | nil =>
    rw [hw, List.nil_append] at hq
    rw [Device.offerHead_of_noLane hq rfl (lane_of_control rfl hm)]
    simp [Device.answerHead, hq]
  | cons w rest =>
    rw [hw] at hq
    have dealt : ∀ v ∈ e.writeQueue.head?, v.status ≠ .waiting := by
      rw [hq]
      rw [hw] at hd
      exact hd
    rw [Device.offerHead_of_dealt dealt]
    simp [← hq]

/-- A write that the port accepts while no window entry is damaged: it is placed by its match, and the head is dealt with. -/
theorem writeArrives_good {d : Device} (hn : d.writeQueue.length < 16) (hgood : d.damagedWindows = []) (id : Nat)
    (addr : Addr) (beats : List Beat) :
    d.writeArrives id addr beats = (d.placeWrite id addr beats (writeMatch d.engine.mode (d.lookup addr))).offerHead := by
  have accepted : d.writeQueue.length < Config.writeQueueDepth := hn
  simp only [Device.writeArrives, accepted, if_true, Device.matchBurst_good hgood]

theorem controlWrite_writeQueue (d : Device) (base addr : Addr) (beats : List Beat) :
    (d.controlWrite base addr beats).writeQueue = d.writeQueue := by
  unfold Device.controlWrite Device.captureDirective
  dsimp only
  repeat' split
  all_goals rfl

/-- An accepted write into the control window: it joins the queue, the engine takes it, and the head is dealt with. -/
theorem exec_controlWrite {s : State} {id : Nat} {addr : Addr} {beats : List Beat} {m : WindowMatch} (ha : Awake s.dev)
    (hb : burstOk addr beats.length = true) (hn : s.dev.writeQueue.length < 16) (hgood : s.dev.damagedWindows = [])
    (hl : s.dev.lookup addr = some m) (hm : m.window.kind = .control) :
    exec (.upstreamWrite id addr beats) s = .next { s with dev := Device.settle (
      { (Joined s.dev id addr beats m).controlWrite m.window.base addr beats with
        writeQueue := forwardedQueue s.dev id addr beats m }) } := by
  obtain ⟨hreset, hd⟩ := ha
  have hplace : Device.placeWrite { s.dev with ports := [] } id addr beats
        (writeMatch s.dev.engine.mode (s.dev.lookup addr)) =
      (Joined s.dev id addr beats m).controlWrite m.window.base addr beats := by
    rw [hl, writeMatch_control hm]
    simp only [Device.placeWrite, Device.matchedWrite, hm]
    rfl
  have hwork : Device.writeArrives { s.dev with ports := [] } id addr beats =
      { (Joined s.dev id addr beats m).controlWrite m.window.base addr beats with
        writeQueue := forwardedQueue s.dev id addr beats m } := by
    rw [writeArrives_good (d := { s.dev with ports := [] }) hn hgood]
    exact (congrArg Device.offerHead hplace).trans (offerHead_control hd hm (controlWrite_writeQueue ..))
  show execUpstreamWrite id addr beats s = _
  rw [execUpstreamWrite, if_pos hb, if_pos hreset, State.ran_released hreset, hwork]

theorem controlWrite_captured {d : Device} {base addr : Addr} {beats : List Beat}
    (hw : wholeRecord 64 base addr beats = true) (hn : d.engine.queue.length < 8) :
    d.controlWrite base addr beats =
      { d with engine := { d.engine with
          nextCapture := d.engine.nextCapture + 1
          queue := d.engine.queue ++
            [⟨parseDirective (beatsBytes beats) ((addr.toNat - base.toNat) / 64) d.engine.nextCapture, true⟩] } } := by
  have room : d.engine.queue.length < Config.directiveQueueDepth := hn
  rw [Device.controlWrite, if_pos hw, Device.captureDirective, if_pos room]

theorem controlWrite_lost {d : Device} {base addr : Addr} {beats : List Beat}
    (hw : wholeRecord 64 base addr beats = true) (hn : 8 ≤ d.engine.queue.length) :
    d.controlWrite base addr beats =
      Device.refuse { d with engine := { d.engine with nextCapture := d.engine.nextCapture + 1 } }
        (parseDirective (beatsBytes beats) ((addr.toNat - base.toNat) / 64) d.engine.nextCapture) .queueFull := by
  have full : ¬d.engine.queue.length < Config.directiveQueueDepth := Nat.not_lt.2 hn
  rw [Device.controlWrite, if_pos hw, Device.captureDirective, if_neg full]

theorem controlWrite_partial {d : Device} {base addr : Addr} {beats : List Beat}
    (hw : wholeRecord 64 base addr beats = false) : d.controlWrite base addr beats = d.partialControlWrite := by
  simp [Device.controlWrite, hw]

end Sys2Proof.Safety

section
open Sys2Proof Sys2Proof.Machine Sys2Proof.Safety

/-- Settles O6: a control window write joins the write queue, and the engine captures it, loses it or counts it. -/
theorem controlWindowWritesAreCaptured : Obligations.ControlWindowWritesAreCaptured := by
  refine ⟨?captured, ?lost, ?counted, fun _ _ _ => rfl⟩
  case captured =>
    intro s id addr beats m ha hb hn hgood hl hm hw hfree
    rw [exec_controlWrite ha hb hn hgood hl hm, controlWrite_captured (d := Joined s.dev id addr beats m) hw hfree]
    rfl
  case lost =>
    rintro s id addr beats m x ha hb hn hgood hl hm hw hfull rfl
    rw [exec_controlWrite ha hb hn hgood hl hm, controlWrite_lost (d := Joined s.dev id addr beats m) hw hfull]
    rfl
  case counted =>
    intro s id addr beats m ha hb hn hgood hl hm hw
    rw [exec_controlWrite ha hb hn hgood hl hm, controlWrite_partial (d := Joined s.dev id addr beats m) hw]
    rfl

end

end

section

/-! PROOFS. The track table (R35, R36, R41, R42): no operation but the taking of a descriptor gives a slot a kind, a lane or a
reserve, and none leaves a context out of shape. -/

namespace Sys2Proof.Machine

open Sys2Proof

/-! ## Contexts -/

/-- What a body takes of what the tracks share: its lane, its cue reserve and its clip reserve (R41, R42). -/
def TrackBody.claims : TrackBody → Option LaneNo × Nat × Nat
  | .absent => (none, 0, 0)
  | .text x => (none, x.settings.reserve, 0)
  | .description x => (some x.lane, 0, x.settings.reserve)

/-- A context that holds a body exactly in the states that hold a pool, and a STALLED or DEGRADED one of its own kind (R36). -/
def TrackContext.Shaped (c : TrackContext) : Prop :=
  (c.state.holdsPool = false ↔ c.body = .absent) ∧ (c.state = .stalled → c.text.isSome = true) ∧
    (c.state = .degraded → c.clips.isSome = true)

/-- `c'` follows `c` without a new claim: it is in shape if `c` is, and its body takes what that of `c` took, or nothing. -/
structure TrackContext.Follows (c c' : TrackContext) : Prop where
  shaped : c.Shaped → c'.Shaped
  claims : c'.body.claims = c.body.claims ∨ c'.body.claims = TrackBody.absent.claims

theorem TrackContext.text_eq_some {c : TrackContext} {x : TextTrack} : c.text = some x ↔ c.body = .text x := by
  unfold TrackContext.text
  cases c.body <;> simp

theorem TrackContext.clips_eq_some {c : TrackContext} {x : ClipTrack} : c.clips = some x ↔ c.body = .description x := by
  unfold TrackContext.clips
  cases c.body <;> simp

theorem TrackContext.shaped_free : TrackContext.freeContext.Shaped :=
  ⟨⟨fun _ => rfl, fun _ => rfl⟩, nofun, nofun⟩

/-- A context with a TEXT body is in shape in the pool-holding states but DEGRADED. -/
theorem TrackContext.shaped_text {c : TrackContext} {x : TextTrack} (h : c.body = .text x) :
    c.Shaped ↔ c.state.holdsPool = true ∧ c.state ≠ .degraded := by
  simp [TrackContext.Shaped, TrackContext.text, TrackContext.clips, h]

/-- A context with a DESCRIPTION body is in shape in the pool-holding states but STALLED. -/
theorem TrackContext.shaped_clips {c : TrackContext} {x : ClipTrack} (h : c.body = .description x) :
    c.Shaped ↔ c.state.holdsPool = true ∧ c.state ≠ .stalled := by
  simp [TrackContext.Shaped, TrackContext.text, TrackContext.clips, h]

namespace TrackContext.Follows

theorem same (c : TrackContext) : c.Follows c := ⟨id, .inl rfl⟩

theorem trans {a b c : TrackContext} (h : a.Follows b) (k : b.Follows c) : a.Follows c := by
  refine ⟨fun s => k.shaped (h.shaped s), ?_⟩
  rcases k.claims with hk | hk
  · rw [hk]
    exact h.claims
  · exact .inr hk

theorem free (c : TrackContext) : c.Follows TrackContext.freeContext := ⟨fun _ => TrackContext.shaped_free, .inr rfl⟩

/-- A TEXT track that keeps its reserve, in its state or in another that such a track can have. -/
theorem text {c c' : TrackContext} {x y : TextTrack} (hc : c.body = .text x) (hc' : c'.body = .text y)
    (hr : y.settings.reserve = x.settings.reserve)
    (hs : c'.state = c.state ∨ c'.state.holdsPool = true ∧ c'.state ≠ .degraded) : c.Follows c' := by
  refine ⟨fun s => ?_, .inl (by simp [hc, hc', TrackBody.claims, hr])⟩
  rw [shaped_text hc] at s
  rw [shaped_text hc']
  rcases hs with hs | hs
  · rwa [hs]
  · exact hs

/-- A DESCRIPTION track that keeps its lane and its reserve, in its state or in another that such a track can have. -/
theorem clips {c c' : TrackContext} {x y : ClipTrack} (hc : c.body = .description x) (hc' : c'.body = .description y)
    (hl : y.lane = x.lane) (hr : y.settings = x.settings)
    (hs : c'.state = c.state ∨ c'.state.holdsPool = true ∧ c'.state ≠ .stalled) : c.Follows c' := by
  refine ⟨fun s => ?_, .inl (by simp [hc, hc', TrackBody.claims, hl, hr])⟩
  rw [shaped_clips hc] at s
  rw [shaped_clips hc']
  rcases hs with hs | hs
  · rwa [hs]
  · exact hs

/-- A track with a body enters FAULTED. -/
theorem faulted {c c' : TrackContext} (hb : c.body ≠ .absent) (hs : c'.state = .faulted)
    (hc' : c'.body = c.body.stopped) : c.Follows c' := by
  cases hc : c.body with
  | absent => exact absurd hc hb
  | text x =>
    have hx : c'.body = .text x.stopped := by rw [hc', hc]; rfl
    exact .text hc hx rfl (.inr (by rw [hs]; decide))
  | description x =>
    have hx : c'.body = .description x.stopped := by rw [hc', hc]; rfl
    exact .clips hc hx rfl rfl (.inr (by rw [hs]; decide))

end TrackContext.Follows

/-! ## Devices -/

/-- Each context of `e` follows that of `d`. -/
structure Device.KeepsTracks (d e : Device) : Prop where
  each : ∀ t, (d.track t).Follows (e.track t)

namespace Device.KeepsTracks

theorem same {d e : Device} (h : e.tracks = d.tracks) : d.KeepsTracks e := ⟨fun t => by
  rw [Device.track_congr h]
  exact .same _⟩

theorem trans {d e f : Device} (h : d.KeepsTracks e) (k : e.KeepsTracks f) : d.KeepsTracks f :=
  ⟨fun t => (h.each t).trans (k.each t)⟩

theorem before {d e f : Device} (h : e.KeepsTracks f) (he : e.tracks = d.tracks) : d.KeepsTracks f :=
  (same he).trans h

theorem andThen {d e f : Device} (h : d.KeepsTracks e) (hf : f.tracks = e.tracks) : d.KeepsTracks f :=
  h.trans (same hf)

theorem withCues {d e : Device} (h : d.KeepsTracks e) (pool : Vector (Option CueEntry) 256) :
    d.KeepsTracks { e with cuePool := pool } :=
  h.andThen rfl

theorem posts {d e : Device} (h : d.KeepsTracks e) (r : Report) : d.KeepsTracks (e.post r) :=
  h.andThen rfl

theorem foldl {α : Type} {f : Device → α → Device} (hf : ∀ (d : Device) a, d.KeepsTracks (f d a)) (l : List α)
    (d : Device) : d.KeepsTracks (l.foldl f d) := by
  induction l generalizing d with
  | nil => exact .same rfl
  | cons a l ih => exact (hf d a).trans (ih (f d a))

theorem setTrack {d : Device} {t : Slot} {c : TrackContext} (h : (d.track t).Follows c) : d.KeepsTracks (d.setTrack t c) := by
  refine ⟨fun u => ?_⟩
  by_cases hu : t = u
  · subst hu
    rwa [Device.track_setTrack_self]
  · rw [Device.track_setTrack_of_ne d c hu]
    exact .same _

theorem setText {d : Device} {t : Slot} {x y : TextTrack} (h : (d.track t).text = some x)
    (hr : y.settings.reserve = x.settings.reserve) : d.KeepsTracks (d.setText t y) :=
  setTrack (.text (TrackContext.text_eq_some.1 h) rfl hr (.inl rfl))

theorem setClips {d : Device} {t : Slot} {x y : ClipTrack} (h : (d.track t).clips = some x) (hl : y.lane = x.lane)
    (hr : y.settings = x.settings) : d.KeepsTracks (d.setClips t y) :=
  setTrack (.clips (TrackContext.clips_eq_some.1 h) rfl hl hr (.inl rfl))

/-- A TEXT track goes to another state that such a track can have. -/
theorem setTextState {d : Device} {t : Slot} {x : TextTrack} (h : (d.track t).text = some x) {st : TrackState}
    (hs : st.holdsPool = true ∧ st ≠ .degraded) : d.KeepsTracks (d.setTrackState t st) :=
  setTrack (.text (TrackContext.text_eq_some.1 h) (TrackContext.text_eq_some.1 h) rfl (.inr hs))

/-- A DESCRIPTION track goes to another state that such a track can have. -/
theorem setClipsState {d : Device} {t : Slot} {x : ClipTrack} (h : (d.track t).clips = some x) {st : TrackState}
    (hs : st.holdsPool = true ∧ st ≠ .stalled) : d.KeepsTracks (d.setTrackState t st) :=
  setTrack (.clips (TrackContext.clips_eq_some.1 h) (TrackContext.clips_eq_some.1 h) rfl rfl (.inr hs))

theorem allFree {d e : Device} (h : ∀ t, e.track t = TrackContext.freeContext) : d.KeepsTracks e := ⟨fun t => by
  rw [h t]
  exact .free _⟩

end Device.KeepsTracks

@[simp] theorem Device.text_setText (d : Device) (t : Slot) (x : TextTrack) : ((d.setText t x).track t).text = some x := by
  rw [Device.track_setText_self]
  rfl

@[simp] theorem Device.clips_setClips (d : Device) (t : Slot) (x : ClipTrack) : ((d.setClips t x).track t).clips = some x := by
  rw [Device.track_setClips_self]
  rfl

/-! ## Integrity faults and the freeing of a track (R47, R53, R173 to R176) -/

theorem Device.rewriteWindow_tracks (d : Device) (n : Nat) : (d.rewriteWindow n).tracks = d.tracks := by
  unfold Device.rewriteWindow
  repeat' split
  all_goals rfl

theorem Device.keepsTracks_tellMonitor (d : Device) (k : ParityCause) (n : Nat) : d.KeepsTracks (d.tellMonitor k n) := by
  unfold Device.tellMonitor
  split
  · exact .allFree (d.enterBypass_track k n)
  · unfold Device.repeatFault
    dsimp only
    split
    · exact .same (d.rewriteWindow_tracks n)
    · exact .same rfl

theorem Device.keepsTracks_readingTrack {d : Device} {t : Slot} {k : TrackContext → Device}
    (hk : d.KeepsTracks (k (d.track t))) : d.KeepsTracks (d.readingTrack t k) := by
  unfold Device.readingTrack
  split
  · exact hk
  · exact d.keepsTracks_tellMonitor _ _

theorem Device.keepsTracks_freeTrack (d : Device) (t : Slot) : d.KeepsTracks (d.freeTrack t) :=
  .andThen (.setTrack (.free _)) rfl

theorem Device.keepsTracks_refuse (d : Device) (x : Directive) (r : RefusalReason) : d.KeepsTracks (d.refuse x r) :=
  .same rfl

theorem Device.keepsTracks_completeDrain (d : Device) (t : Slot) : d.KeepsTracks (d.completeDrain t) := by
  unfold Device.completeDrain
  split
  · exact d.keepsTracks_freeTrack t
  · exact .before (keepsTracks_freeTrack ..) rfl

theorem Device.keepsTracks_faultTrack {d : Device} {t : Slot} (h : (d.track t).body ≠ .absent) (k : TrackFault) :
    d.KeepsTracks (d.faultTrack t k) := by
  refine .andThen (.setTrack (.faulted h ?_ ?_)) rfl <;> rfl

/-! ## Segmentation (R96 to R110) -/

theorem Device.keepsTracks_closeSegment {d : Device} {t : Slot} {x : TextTrack} (h : (d.track t).text = some x) :
    d.KeepsTracks (d.closeSegment t x) := by
  refine .withCues (.setText h ?_) _
  rfl

theorem Device.keepsTracks_blockClose {d : Device} {t : Slot} {x : TextTrack} (h : (d.track t).text = some x) :
    d.KeepsTracks (d.blockClose t x) := by
  unfold Device.blockClose
  split
  · refine .posts (.trans (.setText h ?_) (.setTextState (d.text_setText t _) (by decide))) _
    rfl
  · exact .setText h rfl

theorem Device.keepsTracks_makeCloses (n : Nat) (d : Device) (t : Slot) : d.KeepsTracks (Device.makeCloses n d t) := by
  induction n generalizing d with
  | zero => exact .same rfl
  | succ n ih =>
    unfold Device.makeCloses
    split
    · exact .same rfl
    · next x hx =>
      split
      · split
        · exact (keepsTracks_closeSegment hx).trans (ih _)
        · exact keepsTracks_blockClose hx
      · exact .same rfl

theorem Device.KeepsTracks.decideClose {c d before : Device} (hd : c.KeepsTracks d) (hb : c.KeepsTracks before) (t : Slot) :
    c.KeepsTracks (d.decideClose t before) := by
  cases hx : (d.track t).text with
  | none => rwa [Device.decideClose, hx]
  | some x =>
    rcases Device.decideClose_cases hx before with ⟨i, -, -, e⟩ | e <;> rw [e]
    · exact hb.trans (before.keepsTracks_tellMonitor .cue i)
    · exact hd.trans (Device.keepsTracks_makeCloses _ d t)

theorem TextTrack.recordAnswered_settings (x : TextTrack) (f : Flight) (tag : Nat) :
    (x.recordAnswered f tag).settings = x.settings := by
  unfold TextTrack.recordAnswered TextTrack.recordDone
  repeat' split
  all_goals rfl

theorem Device.keepsTracks_recordResponse (d : Device) (t : Slot) (o : Outstanding) (resp : Resp) :
    d.KeepsTracks (d.recordResponse t o resp) := by
  unfold Device.recordResponse
  split
  · exact .same rfl
  · next x hx =>
    split
    · exact .same rfl
    · split
      · split
        · exact keepsTracks_readingTrack (.setText hx (by rw [x.recordAnswered_settings]))
        · refine .before (keepsTracks_readingTrack (keepsTracks_faultTrack ?_ _)) rfl
          have hb : (d.track t).body = .text x := TrackContext.text_eq_some.1 hx
          exact fun h => nomatch hb.symm.trans h
      · exact .same rfl

theorem Device.KeepsTracks.resumeTrack {c d before : Device} (hd : c.KeepsTracks d) (hb : c.KeepsTracks before) {t : Slot}
    {x : TextTrack} (h : (d.track t).text = some x) (k : ResumeCause) : c.KeepsTracks (d.resumeTrack t x k before) := by
  refine .decideClose (hd.trans ?_) hb t
  exact .posts (.setTextState h (by decide)) _

theorem Device.KeepsTracks.afterAdvance {c d before : Device} (hd : c.KeepsTracks d) (hb : c.KeepsTracks before) {t : Slot}
    {x : TextTrack} (h : (d.track t).text = some x) : c.KeepsTracks (d.afterAdvance t x before) := by
  unfold Device.afterAdvance
  split
  case h_4 =>
    split
    · exact hd.resumeTrack hb h .auto
    · exact hd
  case h_6 =>
    split
    · exact hd.decideClose hb t
    · split
      · exact hd.trans (d.keepsTracks_completeDrain t)
      · exact hd
  all_goals exact hd

theorem Device.keepsTracks_consumeSlot {d : Device} {t : Slot} {x : TextTrack} (h : (d.track t).text = some x) (i : Nat) :
    d.KeepsTracks (d.consumeSlot t x i) := by
  unfold Device.consumeSlot
  dsimp only
  split
  · split
    · exact d.keepsTracks_tellMonitor _ _
    · refine .afterAdvance (.withCues (.setText h ?_) _) (.same rfl) (d.text_setText t _)
      rfl
  · exact .setText h rfl

theorem Device.keepsTracks_trailerReadIn {d : Device} {t : Slot} {x : TextTrack} (h : (d.track t).text = some x) (i : Nat) :
    d.KeepsTracks (d.trailerReadIn t x i) := by
  unfold Device.trailerReadIn
  split
  case h_3 => exact .setText h rfl
  case h_4 => exact keepsTracks_consumeSlot h i
  all_goals exact .same rfl

theorem Device.keepsTracks_indexTrailerRead (d : Device) (t : Slot) (i : Nat) :
    d.KeepsTracks (d.indexTrailerRead t i) := by
  unfold Device.indexTrailerRead
  split
  · exact .same rfl
  · next x hx =>
    refine keepsTracks_readingTrack ?_
    split
    · exact keepsTracks_trailerReadIn hx i
    · exact .same rfl

/-! ## Cue intake (R71 to R92) -/

theorem Device.keepsTracks_dropCue {d : Device} {t : Slot} {x : TextTrack} (h : (d.track t).text = some x) (a : Bool)
    (k : CueDrop) : d.KeepsTracks (d.dropCue t x a k) := by
  refine .posts (.setText h ?_) _
  rfl

theorem Device.keepsTracks_takeCue {d : Device} {t : Slot} {x : TextTrack} (h : (d.track t).text = some x) (n : Nat)
    (r : CueRecord) : d.KeepsTracks (d.takeCue t x n r) := by
  unfold Device.takeCue
  split
  · exact keepsTracks_dropCue h _ _
  · exact d.keepsTracks_tellMonitor _ _
  · next a i e others moves _ =>
    have taken : d.KeepsTracks (d.setText t (x.cueAccepted e a moves)) := .setText h rfl
    unfold Device.acceptCue
    dsimp only
    split
    · exact .decideClose (taken.withCues _) (.same rfl) t
    · exact taken.withCues _

theorem Device.keepsTracks_captureCue (d : Device) (t : Slot) (n : Nat) (r : CueRecord) :
    d.KeepsTracks (d.captureCue t n r) := by
  unfold Device.captureCue
  split
  · exact .same rfl
  · next x hx =>
    refine keepsTracks_readingTrack ?_
    split
    case h_3 | h_4 => exact keepsTracks_takeCue hx n r
    case h_6 => exact keepsTracks_dropCue hx _ _
    all_goals exact .same rfl

theorem Device.keepsTracks_partialCueWrite (d : Device) (t : Slot) : d.KeepsTracks (d.partialCueWrite t) := by
  unfold Device.partialCueWrite
  split
  · exact .same rfl
  · next x hx =>
    refine keepsTracks_readingTrack ?_
    split
    · exact .setText hx rfl
    · exact .same rfl

/-! ## The lanes (R141 to R161) -/

theorem ClipTrack.requesting_same (x : ClipTrack) (clips : List (Nat × ClipEntry)) (stamp : Nat) :
    (x.requesting clips stamp).lane = x.lane ∧ (x.requesting clips stamp).settings = x.settings := by
  unfold ClipTrack.requesting
  split
  · exact ⟨rfl, rfl⟩
  · split
    · split <;> exact ⟨rfl, rfl⟩
    · exact ⟨rfl, rfl⟩

theorem Device.keepsTracks_laneRefresh (d : Device) (t : Slot) : d.KeepsTracks (d.laneRefresh t) := by
  rcases d.laneRefresh_cases t with e | ⟨x, hx, -, e⟩ <;> rw [e]
  · exact .same rfl
  · obtain ⟨hl, hs⟩ := (x.trimmed (d.schedule t)).requesting_same (d.schedule t) d.nextArrival
    exact .setClips hx hl hs

theorem Device.keepsTracks_laneReads (d : Device) (t : Slot) : d.KeepsTracks (d.laneReads t) := by
  rcases d.laneReads_cases t with ⟨-, e⟩ | ⟨i, -, -, e⟩ | ⟨-, -, e⟩ <;> rw [e]
  · exact .same rfl
  · exact d.keepsTracks_tellMonitor _ _
  · exact d.keepsTracks_laneRefresh t

/-- A lane's track is written back and goes to another state that a DESCRIPTION track can have. -/
theorem Device.KeepsTracks.setClipsThenState {d : Device} {t : Slot} {x y : ClipTrack} (h : (d.track t).clips = some x)
    (hl : y.lane = x.lane) (hr : y.settings = x.settings) {st : TrackState} (hs : st.holdsPool = true ∧ st ≠ .stalled) :
    d.KeepsTracks ((d.setClips t y).setTrackState t st) :=
  .trans (.setClips h hl hr) (.setClipsState (d.clips_setClips t y) hs)

theorem Device.keepsTracks_degradeLane {d : Device} {t : Slot} {x y : ClipTrack} (h : (d.track t).clips = some x)
    (hl : y.lane = x.lane) (hr : y.settings = x.settings) : d.KeepsTracks (d.degradeLane t y) := by
  unfold Device.degradeLane
  refine .posts ?_ _
  split
  · exact .setClips h hl hr
  · exact .setClipsThenState h hl hr ⟨rfl, nofun⟩

theorem Device.keepsTracks_recoverLane {d : Device} {t : Slot} {x : ClipTrack} (h : (d.track t).clips = some x) :
    d.KeepsTracks (d.recoverLane t x) := by
  unfold Device.recoverLane
  refine .posts ?_ _
  split
  · exact .setClips h rfl rfl
  · refine .setClipsThenState h ?_ ?_ ⟨rfl, nofun⟩ <;> rfl

theorem Device.keepsTracks_underrunBurst {d : Device} {t : Slot} {x : ClipTrack} (h : (d.track t).clips = some x) :
    d.KeepsTracks (d.underrunBurst t x) := by
  unfold Device.underrunBurst
  dsimp only
  split
  · split
    · refine .trans (.setClips h ?_ ?_) (keepsTracks_faultTrack ?_ _)
      case refine_3 =>
        rw [Device.track_setClips_self]
        nofun
      all_goals rfl
    · exact .setClips h rfl rfl
  · split
    · exact keepsTracks_degradeLane h rfl rfl
    · exact .setClips h rfl rfl

theorem Device.keepsTracks_countBurst (d : Device) (t : Slot) (s : Supply) (ends : Bool) :
    d.KeepsTracks (d.countBurst t s ends) := by
  unfold Device.countBurst
  split
  · exact .same rfl
  · next x hx =>
    split
    · exact .same rfl
    · split
      · split
        · exact keepsTracks_recoverLane hx
        · exact .same rfl
      · exact .setClips hx rfl rfl
    · exact keepsTracks_underrunBurst hx

theorem Device.keepsTracks_endDrain (d : Device) (t : Slot) : d.KeepsTracks (d.endDrain t) := by
  unfold Device.endDrain
  split
  · exact d.keepsTracks_completeDrain t
  · exact .same rfl

theorem Device.keepsTracks_forward {d : Device} {t : Slot} {x : ClipTrack} (h : (d.track t).clips = some x) (p : Nat)
    (w : QueuedWrite) (s : Supply) : d.KeepsTracks (d.forward t x p w s) := by
  unfold Device.forward
  have processed := (LaneWork.process_spec t p w.original ⟨x, d.clipPool⟩).1
  refine .trans (.trans (.trans ?_ (keepsTracks_countBurst ..)) (keepsTracks_laneRefresh ..)) (keepsTracks_endDrain ..)
  have written : d.KeepsTracks (d.setClips t ((LaneWork.process t p w.original ⟨x, d.clipPool⟩).1.x.trimmed
      (scheduleIn t (LaneWork.process t p w.original ⟨x, d.clipPool⟩).1.pool))) :=
    .setClips h processed.lane processed.settings
  exact written.andThen rfl

theorem Device.keepsTracks_hold {d : Device} {t : Slot} {x : ClipTrack} (h : (d.track t).clips = some x) (p : Nat)
    (w : QueuedWrite) : d.KeepsTracks (d.hold t x p w) := by
  unfold Device.hold
  refine .trans ?_ (keepsTracks_laneRefresh ..)
  have written : d.KeepsTracks (d.setClips t { x with
      held := some ⟨p, 2 * w.original.length⟩, stagingBase := p, timer := .running x.settings.holdLimit }) :=
    .setClips h rfl rfl
  exact written.andThen rfl

theorem Device.keepsTracks_tellThenAnswer (d : Device) (k : ParityCause) (n : Nat) (beats : List Beat) :
    d.KeepsTracks ((d.tellMonitor k n).answerHead beats) :=
  (d.keepsTracks_tellMonitor k n).andThen rfl

theorem Device.keepsTracks_offerMapped {d : Device} {t : Slot} {x : ClipTrack} (h : (d.track t).clips = some x) (p : Nat)
    (w : QueuedWrite) : d.KeepsTracks (d.offerMapped t x p w) := by
  unfold Device.offerMapped
  split
  · exact keepsTracks_tellThenAnswer ..
  · dsimp only
    repeat' split
    case isFalse.isFalse.isFalse => exact keepsTracks_hold h ..
    all_goals exact keepsTracks_forward h ..

theorem Device.keepsTracks_offer (d : Device) (t : Slot) (w : QueuedWrite) : d.KeepsTracks (d.offer t w) := by
  unfold Device.offer
  split
  · split
    · exact .same rfl
    · next x hx =>
      split
      · unfold Device.offerLane
        dsimp only
        split
        · have written : d.KeepsTracks (d.setClips t x.revisited) := .setClips hx rfl rfl
          exact written.andThen rfl
        · exact keepsTracks_offerMapped hx ..
      · exact .same rfl
  · exact keepsTracks_tellThenAnswer ..

theorem Device.keepsTracks_offerHead (d : Device) : d.KeepsTracks d.offerHead := by
  unfold Device.offerHead
  split
  · exact .same rfl
  · split
    · split
      · exact .same rfl
      · exact keepsTracks_offer ..
    · exact .same rfl

theorem Device.keepsTracks_endHold {d : Device} {t : Slot} {x : ClipTrack} (h : (d.track t).clips = some x)
    (m : HeldMapping) (w : QueuedWrite) (s : Supply) : d.KeepsTracks (d.endHold t x m w s) := by
  unfold Device.endHold
  split
  · exact keepsTracks_tellThenAnswer ..
  · exact keepsTracks_forward h ..

theorem Device.keepsTracks_completionTest (d : Device) (t : Slot) : d.KeepsTracks (d.completionTest t) := by
  unfold Device.completionTest
  split
  · exact .same rfl
  · next x hx =>
    split
    · exact .same rfl
    · split
      · exact keepsTracks_endHold hx ..
      · exact .same rfl

theorem Device.keepsTracks_timerExpires (d : Device) : d.KeepsTracks d.timerExpires := by
  unfold Device.timerExpires
  split
  · exact .same rfl
  · unfold Device.expireHold
    split
    · exact .same rfl
    · next x hx =>
      split
      · exact .same rfl
      · exact .same rfl
      · refine keepsTracks_readingTrack ?_
        split
        · exact keepsTracks_endHold hx ..
        · exact .same rfl

theorem ClipTrack.received_same (x : ClipTrack) (d : Device) (t : Slot) (r : SampleRead) (o : Outstanding) (resp : Resp)
    (data : List Word) :
    (x.received d t r o resp data).lane = x.lane ∧ (x.received d t r o resp data).settings = x.settings := by
  unfold ClipTrack.received
  dsimp only
  split <;> exact ⟨rfl, rfl⟩

theorem Device.keepsTracks_stageResponse {d : Device} {t : Slot} {x : ClipTrack} (h : (d.track t).clips = some x)
    (r : SampleRead) (o : Outstanding) (resp : Resp) (data : List Word) :
    d.KeepsTracks (d.stageResponse t x r o resp data) := by
  refine keepsTracks_readingTrack ?_
  split
  · exact d.keepsTracks_tellMonitor _ _
  · refine .trans (.trans ?_ (keepsTracks_laneRefresh ..)) (keepsTracks_completionTest ..)
    obtain ⟨hl, hs⟩ := ClipTrack.received_same { x with reads := x.reads.filter fun u => u.tag != o.tag } d t r o resp data
    exact .setClips h hl hs

/-- A slot whose track holds a lane holds that track (R42). -/
theorem Device.laneHolder_spec {d : Device} {l : LaneNo} {t : Slot} {x : ClipTrack} (h : d.laneHolder l = some (t, x)) :
    (d.track t).clips = some x ∧ x.lane = l := by
  obtain ⟨u, -, hu⟩ := List.exists_of_findSome?_eq_some h
  split at hu
  · cases hu
  · next y hy =>
    split at hu <;> cases hu
    exact ⟨hy, ‹_›⟩

theorem Device.sampleReadOf_clips {d : Device} {l : LaneNo} {tag : Nat} {t : Slot} {x : ClipTrack} {r : SampleRead}
    (h : d.sampleReadOf l tag = some (t, x, r)) : (d.track t).clips = some x := by
  unfold Device.sampleReadOf at h
  split at h
  · cases h
  · next u y hy =>
    obtain ⟨q, -, hq⟩ := Option.map_eq_some_iff.1 h
    cases hq
    exact (Device.laneHolder_spec hy).1

theorem Device.keepsTracks_sampleResponse (d : Device) (l : LaneNo) (o : Outstanding) (resp : Resp) (data : List Word) :
    d.KeepsTracks (d.sampleResponse l o resp data) := by
  unfold Device.sampleResponse
  split
  · exact .same rfl
  · next t x r hr =>
    have hx := Device.sampleReadOf_clips hr
    split
    · refine .trans (.setClips hx ?_ ?_) (keepsTracks_laneReads ..) <;> rfl
    · split
      · exact keepsTracks_stageResponse hx ..
      · refine .trans (.posts (.same rfl) (.memoryError t (some l) o.addr o.count)) (keepsTracks_stageResponse ?_ ..)
        exact hx

/-! ## Clip intake (R115 to R127) -/

theorem Device.keepsTracks_dropClip {d : Device} {t : Slot} {x : ClipTrack} (h : (d.track t).clips = some x) (a : Bool)
    (k : ClipDrop) : d.KeepsTracks (d.dropClip t x a k) := by
  refine .posts (.setClips h ?_ ?_) _ <;> rfl

theorem Device.keepsTracks_takeClip {d : Device} {t : Slot} {x : ClipTrack} (h : (d.track t).clips = some x) (n : Nat)
    (r : ClipRecord) : d.KeepsTracks (d.takeClip t x n r) := by
  unfold Device.takeClip
  split
  · exact keepsTracks_dropClip h _ _
  · exact d.keepsTracks_tellMonitor _ _
  · next a i e moved _ =>
    refine .trans (.trans ?_ (keepsTracks_laneRefresh ..)) (keepsTracks_completionTest ..)
    have taken : d.KeepsTracks (d.setClips t { x with counters := x.counters.clipAccepted a moved.length }) :=
      .setClips h rfl rfl
    exact taken.andThen rfl

theorem Device.keepsTracks_captureClip (d : Device) (t : Slot) (n : Nat) (r : ClipRecord) :
    d.KeepsTracks (d.captureClip t n r) := by
  unfold Device.captureClip
  split
  · exact .same rfl
  · next x hx =>
    refine keepsTracks_readingTrack ?_
    split
    case h_3 | h_5 => exact keepsTracks_takeClip hx n r
    case h_6 => exact keepsTracks_dropClip hx _ _
    all_goals exact .same rfl

theorem Device.keepsTracks_partialClipWrite (d : Device) (t : Slot) : d.KeepsTracks (d.partialClipWrite t) := by
  unfold Device.partialClipWrite
  split
  · exact .same rfl
  · next x hx =>
    refine keepsTracks_readingTrack ?_
    split
    · exact .setClips hx rfl rfl
    · exact .same rfl

/-! ## The through-path (spec 01) -/

theorem Device.keepsTracks_controlWrite (d : Device) (base addr : Addr) (beats : List Beat) :
    d.KeepsTracks (d.controlWrite base addr beats) := by
  unfold Device.controlWrite Device.captureDirective
  dsimp only
  repeat' split
  all_goals exact .same rfl

theorem Device.keepsTracks_intakeWrite (d : Device) (t : Slot) (k : WindowKind) (base addr : Addr) (beats : List Beat) :
    d.KeepsTracks (d.intakeWrite t k base addr beats) := by
  unfold Device.intakeWrite
  dsimp only
  split
  case h_3 =>
    split
    · exact keepsTracks_captureCue ..
    · exact keepsTracks_partialCueWrite ..
  case h_5 =>
    split
    · exact keepsTracks_captureClip ..
    · exact keepsTracks_partialClipWrite ..
  all_goals exact .same rfl

theorem Device.keepsTracks_ringWrite (d : Device) (id : Nat) (addr : Addr) (beats : List Beat) (m : WindowMatch) :
    d.KeepsTracks (d.ringWrite id addr beats m) := by
  unfold Device.ringWrite
  split
  · exact .same rfl
  · split
    · exact .same rfl
    · exact .before (keepsTracks_intakeWrite ..) rfl

theorem Device.keepsTracks_placeWrite (d : Device) (id : Nat) (addr : Addr) (beats : List Beat)
    (found : Option WindowMatch) : d.KeepsTracks (d.placeWrite id addr beats found) := by
  unfold Device.placeWrite
  split
  · exact .same rfl
  · unfold Device.matchedWrite
    split
    case h_1 => exact .before (keepsTracks_controlWrite ..) rfl
    case h_3 | h_5 => exact keepsTracks_ringWrite ..
    all_goals exact .same rfl

theorem Device.keepsTracks_matchBurst (d : Device) (a : Addr) : d.KeepsTracks (d.matchBurst a).1 := by
  unfold Device.matchBurst
  split
  · exact .same rfl
  · exact .foldl (fun e (j : EntryNo) => e.keepsTracks_tellMonitor .window j.val) _ d

theorem Device.keepsTracks_writeArrives (d : Device) (id : Nat) (addr : Addr) (beats : List Beat) :
    d.KeepsTracks (d.writeArrives id addr beats) := by
  unfold Device.writeArrives
  split
  · exact .trans (.trans (keepsTracks_matchBurst ..) (keepsTracks_placeWrite ..)) (keepsTracks_offerHead _)
  · exact .same rfl

theorem Device.keepsTracks_readArrives (d : Device) (id : Nat) (addr : Addr) (count : Nat) :
    d.KeepsTracks (d.readArrives id addr count) := by
  unfold Device.readArrives
  split
  · exact (d.keepsTracks_matchBurst addr).andThen rfl
  · exact .same rfl

theorem Device.keepsTracks_throughWrite (d : Device) (tag : Nat) (resp : Resp) :
    d.KeepsTracks (d.throughWrite tag resp) := by
  unfold Device.throughWrite
  split
  · exact .same rfl
  · split <;> exact .same rfl

theorem Device.reportTrailerRead_tracks (d : Device) (n : Nat) : (d.reportTrailerRead n).tracks = d.tracks := by
  unfold Device.reportTrailerRead
  repeat' split
  all_goals rfl

theorem Device.keepsTracks_trailerRead (d : Device) (w : Window) (n : Nat) : d.KeepsTracks (d.trailerRead w n) := by
  unfold Device.trailerRead
  split
  case h_2 => exact .same (d.reportTrailerRead_tracks n)
  case h_4 =>
    split
    · exact .same rfl
    · exact keepsTracks_indexTrailerRead ..
  all_goals exact .same rfl

theorem Device.keepsTracks_watchEvents (d : Device) (found : Option WindowMatch) (a : Addr) (count : Nat) :
    d.KeepsTracks (d.watchEvents found a count) := by
  unfold Device.watchEvents
  split
  · exact .same rfl
  · next m => exact .foldl (fun e n => e.keepsTracks_trailerRead m.window n) _ d

theorem Device.keepsTracks_throughRead (d : Device) (tag : Nat) (resp : Resp) (data : List Word) :
    d.KeepsTracks (d.throughRead tag resp data) := by
  unfold Device.throughRead
  split
  · exact .same rfl
  · next o _ =>
    split
    case h_1 id found _ =>
      split
      · unfold Device.readAnswered
        split
        · exact .andThen (.before (keepsTracks_watchEvents (d.answered o.tag) found o.addr o.count) rfl) rfl
        · exact .same rfl
      · exact .same rfl
    all_goals exact .same rfl

/-! ## The report writer (spec 10) -/

theorem Device.switchRing_tracks (d : Device) (x : Directive) : (d.switchRing x).tracks = d.tracks := by
  unfold Device.switchRing
  split <;> rfl

theorem Device.setReportRing_tracks (d : Device) (x : Directive) : (d.setReportRing x).tracks = d.tracks := by
  unfold Device.setReportRing
  split
  · split
    · exact d.switchRing_tracks x
    · rfl
  · rfl

theorem Device.reportEnded_tracks (d : Device) : d.reportEnded.tracks = d.tracks := by
  unfold Device.reportEnded
  split
  · rfl
  · exact d.switchRing_tracks _

theorem Device.reportResponse_tracks (d : Device) (tag : Nat) (resp : Resp) :
    (d.reportResponse tag resp).tracks = d.tracks := by
  unfold Device.reportResponse
  split
  · rfl
  · split
    case h_2 => split <;> rfl
    case h_3 | h_5 | h_6 =>
      split
      · exact Device.reportEnded_tracks _
      · rfl
    all_goals rfl

theorem Device.reportWritten_tracks (d : Device) (tag : Nat) (resp : Resp) :
    (d.reportWritten tag resp).tracks = d.tracks := by
  unfold Device.reportWritten
  split
  · rfl
  · split
    case h_6 => exact (d.answered tag).reportResponse_tracks tag resp
    all_goals rfl

theorem Device.beginReport_tracks (d : Device) : d.beginReport.tracks = d.tracks := by
  unfold Device.beginReport
  split <;> rfl

/-! ## The other responses (R104, R151) -/

theorem Device.keepsTracks_recordWritten (d : Device) (tag : Nat) (resp : Resp) :
    d.KeepsTracks (d.recordWritten tag resp) := by
  unfold Device.recordWritten
  split
  · exact .same rfl
  · split
    case h_5 => exact .before (keepsTracks_recordResponse ..) rfl
    all_goals exact .same rfl

theorem Device.keepsTracks_prefetched (d : Device) (tag : Nat) (resp : Resp) (data : List Word) :
    d.KeepsTracks (d.prefetched tag resp data) := by
  unfold Device.prefetched
  split
  · exact .same rfl
  · split
    case h_4 =>
      split
      · exact .before (keepsTracks_sampleResponse ..) rfl
      · exact .same rfl
    all_goals exact .same rfl

/-! ## The arbiter (R15) -/

theorem Device.keepsTracks_grantThrough (d : Device) : d.KeepsTracks d.grantThrough := by
  unfold Device.grantThrough
  split
  · exact .same rfl
  · exact .before (keepsTracks_offerHead _) rfl
  · exact .same rfl

theorem Device.keepsTracks_grantRecord (d : Device) : d.KeepsTracks d.grantRecord := by
  unfold Device.grantRecord
  split
  · exact .same rfl
  · next t _ =>
    split
    · exact .same rfl
    · next x i r hb =>
      have hx : (d.track t).text = some x := by
        unfold Device.recordBurstOf at hb
        split at hb
        · cases hb
        · next y hy =>
          obtain ⟨b, -, hb⟩ := Option.map_eq_some_iff.1 hb
          cases hb
          exact hy
      have written : d.KeepsTracks (d.setText t
          { x with flight := x.flight.map fun f => { f with granted := f.granted + 1, tags := f.tags ++ [d.nextTag] } }) :=
        .setText hx rfl
      exact written.andThen rfl

theorem Device.keepsTracks_grantDescriptor (d : Device) : d.KeepsTracks d.grantDescriptor := by
  unfold Device.grantDescriptor
  split
  · exact .same rfl
  · next t _ =>
    split
    · exact .same rfl
    · have fetched : d.KeepsTracks (d.setTrack t { d.track t with fetch := none }) := .setTrack ⟨id, .inl rfl⟩
      exact fetched.andThen rfl

theorem Device.laneRequest_clips {d : Device} {l : LaneNo} {t : Slot} {x : ClipTrack} {q : SampleRequest}
    (h : d.laneRequest l = some (t, x, q)) : (d.track t).clips = some x := by
  unfold Device.laneRequest at h
  split at h
  · cases h
  · next u y hy =>
    split at h
    · cases h
    · split at h <;> cases h
      exact (Device.laneHolder_spec hy).1

theorem Device.keepsTracks_issueSamples (d : Device) (who : Requester) (l : LaneNo) :
    d.KeepsTracks (d.issueSamples who l) := by
  unfold Device.issueSamples
  split
  · exact .same rfl
  · next t x q hq =>
    refine .trans ?_ (keepsTracks_laneReads ..)
    have issued : d.KeepsTracks (d.setClips t { x with
        request := none, reads := x.reads ++ [⟨d.nextTag, q.clip, q.first, q.count, false⟩] }) :=
      .setClips (Device.laneRequest_clips hq) rfl rfl
    exact issued.andThen rfl

theorem Device.keepsTracks_grantTo (d : Device) (r : Requester) : d.KeepsTracks (d.grantTo r) := by
  cases r with
  | urgentPrefetch =>
    show d.KeepsTracks d.grantUrgent
    unfold Device.grantUrgent
    split
    · exact .same rfl
    · exact keepsTracks_issueSamples ..
  | throughPath => exact d.keepsTracks_grantThrough
  | recordWriter => exact d.keepsTracks_grantRecord
  | descriptorReads => exact d.keepsTracks_grantDescriptor
  | ordinaryPrefetch =>
    show d.KeepsTracks d.grantOrdinary
    unfold Device.grantOrdinary
    split
    · exact .same rfl
    · exact .before (keepsTracks_issueSamples ..) rfl
  | reportWriter =>
    show d.KeepsTracks d.grantReport
    unfold Device.grantReport
    split <;> exact .same rfl

theorem Device.keepsTracks_grant (d : Device) : d.KeepsTracks d.grant := by
  unfold Device.grant
  split
  · split
    · exact .same rfl
    · exact .before (keepsTracks_grantTo ..) rfl
  · exact .same rfl

/-! ## Directives (spec 02, spec 03) -/

theorem Device.keepsTracks_takeDirective {k : DirectiveKind} {run : Device → Directive → Device}
    (hr : ∀ (e : Device) x, e.KeepsTracks (run e x)) (d : Device) : d.KeepsTracks (d.takeDirective k run) := by
  rcases d.takeDirective_cases k run with ⟨q, rest, -, -, -, -, e⟩ | e | e <;> rw [e]
  · exact .before (hr _ _) rfl
  · exact .before (keepsTracks_tellMonitor ..) rfl
  · exact .same rfl

/-- A track directive, by what it does to the context of its slot. -/
theorem Device.keepsTracks_trackDirective {run : Device → Directive → Slot → TrackContext → Device}
    (hr : ∀ (e : Device) x t, e.KeepsTracks (run e x t (e.track t))) (k : DirectiveKind) (d : Device) :
    d.KeepsTracks (d.takeDirective k fun e x => e.dispatch x (run e x)) := by
  refine keepsTracks_takeDirective (fun e x => ?_) d
  unfold Device.dispatch
  split
  · exact .same rfl
  · split
    · exact .same rfl
    · exact keepsTracks_readingTrack (hr ..)

theorem Device.keepsTracks_onText {d : Device} {t : Slot} {run : TextTrack → Device}
    (hr : ∀ y, (d.track t).text = some y → d.KeepsTracks (run y)) (x : Directive) :
    d.KeepsTracks (d.onText x (d.track t) run) := by
  unfold Device.onText
  split
  case h_5 y hy _ _ => exact hr y (TrackContext.text_eq_some.2 hy)
  all_goals exact .same rfl

theorem Device.keepsTracks_inState {d run : Device} (hr : d.KeepsTracks run) (x : Directive) (b : Bool) :
    d.KeepsTracks (d.inState x b run) := by
  unfold Device.inState
  split
  · exact hr
  · exact .same rfl

theorem Device.keepsTracks_openTrack (d : Device) (x : Directive) (t : Slot) :
    d.KeepsTracks (d.openTrack x t (d.track t)) := by
  unfold Device.openTrack
  split
  · exact .same rfl
  · split
    · exact .same rfl
    · exact .setTrack ⟨fun _ => ⟨⟨fun _ => rfl, fun _ => rfl⟩, nofun, nofun⟩, .inr rfl⟩

theorem Device.keepsTracks_drainText {d : Device} {t : Slot} {y : TextTrack} (h : (d.track t).text = some y) :
    d.KeepsTracks (d.drainText t y) := by
  unfold Device.drainText
  split
  · exact d.keepsTracks_tellMonitor _ _
  · refine .decideClose (.trans (.setText h ?_) (.setTextState (d.text_setText t _) (by decide))) (.same rfl) t
    rfl

theorem Device.keepsTracks_drainClips {d : Device} {t : Slot} {y : ClipTrack} (h : (d.track t).clips = some y) (b : Bool) :
    d.KeepsTracks (d.drainClips t y b) := by
  unfold Device.drainClips
  refine .trans (.setClipsThenState h ?_ ?_ (by decide)) (keepsTracks_endDrain ..) <;> rfl

theorem Device.keepsTracks_closeTrack (d : Device) (x : Directive) (t : Slot) :
    d.KeepsTracks (d.closeTrack x t (d.track t)) := by
  unfold Device.closeTrack
  split
  case h_3 hy | h_6 hy => exact keepsTracks_drainText (TrackContext.text_eq_some.2 hy)
  case h_4 hy | h_9 hy => exact keepsTracks_drainClips (TrackContext.clips_eq_some.2 hy) _
  all_goals exact .same rfl

theorem Device.keepsTracks_flushTrack (d : Device) (x : Directive) (t : Slot) :
    d.KeepsTracks (d.flushTrack x t (d.track t)) := by
  refine keepsTracks_onText (fun y hy => keepsTracks_inState ?_ x _) x
  split
  · exact .same rfl
  · have written : d.KeepsTracks (d.setText t { y with
        flushFrame := raiseTo (flushFrameOf y.settings.rate x.flushTimecode) y.flushFrame }) := .setText hy rfl
    unfold Device.flushTo
    dsimp only
    split
    · exact .decideClose written (.same rfl) t
    · exact written

theorem Device.keepsTracks_abortTrack (d : Device) (x : Directive) (t : Slot) :
    d.KeepsTracks (d.abortTrack x t (d.track t)) := by
  unfold Device.abortTrack
  split
  · exact .same rfl
  · exact d.keepsTracks_freeTrack t

theorem Device.keepsTracks_retuneTrack (d : Device) (x : Directive) (t : Slot) :
    d.KeepsTracks (d.retuneTrack x t (d.track t)) := by
  refine keepsTracks_onText (fun y hy => keepsTracks_inState ?_ x _) x
  split
  · exact .same rfl
  · exact .setText hy rfl

theorem Device.keepsTracks_resumeDirective (d : Device) (x : Directive) (t : Slot) :
    d.KeepsTracks (d.resumeDirective x t (d.track t)) := by
  refine keepsTracks_onText (fun y hy => keepsTracks_inState ?_ x _) x
  split
  · exact .resumeTrack (.same rfl) (.same rfl) hy .resume
  · exact .same rfl

theorem Device.keepsTracks_setReportRing (d : Device) (x : Directive) : d.KeepsTracks (d.setReportRing x) :=
  .same (d.setReportRing_tracks x)

theorem Device.keepsTracks_clearBypass (d : Device) (x : Directive) : d.KeepsTracks (d.clearBypass x) := by
  unfold Device.clearBypass
  split <;> exact .same rfl

end Sys2Proof.Machine

/-! PROOFS. The track table is sound after every step (R35, R36, R41, R42): a new claim comes with the taking of a descriptor
alone, whose checks make room for it. -/

namespace Sys2Proof.Safety

open Sys2Proof Sys2Proof.Machine

/-- The three invariants of the track table together. -/
structure TracksSound (d : Device) : Prop where
  shaped : ∀ t, (d.track t).Shaped
  lanes : ∀ t u l, t ≠ u → (d.track t).body.claims.1 = some l → (d.track u).body.claims.1 ≠ some l
  cues : ∑ t, (d.track t).body.claims.2.1 ≤ Config.cuePoolSize
  clips : ∑ t, (d.track t).body.claims.2.2 ≤ Config.clipPoolSize

/-- A context in shape has a reserve only if it holds a pool. -/
theorem cueReserve_eq {d : Device} {t : Slot} (h : (d.track t).Shaped) :
    d.cueReserve t = (d.track t).body.claims.2.1 := by
  unfold Device.cueReserve TrackContext.text
  cases hb : (d.track t).body with
  | absent => rfl
  | text x => simp [((TrackContext.shaped_text hb).1 h).1, TrackBody.claims]
  | description x => rfl

theorem clipReserve_eq {d : Device} {t : Slot} (h : (d.track t).Shaped) :
    d.clipReserve t = (d.track t).body.claims.2.2 := by
  unfold Device.clipReserve TrackContext.clips
  cases hb : (d.track t).body with
  | absent => rfl
  | text x => rfl
  | description x => simp [((TrackContext.shaped_clips hb).1 h).1, TrackBody.claims]

theorem sum_cueReserve {d : Device} (h : ∀ t, (d.track t).Shaped) :
    (allSlots.map d.cueReserve).sum = ∑ t, (d.track t).body.claims.2.1 := by
  rw [Fin.sum_univ_def]
  exact congrArg List.sum (List.map_congr_left fun t _ => cueReserve_eq (h t))

theorem sum_clipReserve {d : Device} (h : ∀ t, (d.track t).Shaped) :
    (allSlots.map d.clipReserve).sum = ∑ t, (d.track t).body.claims.2.2 := by
  rw [Fin.sum_univ_def]
  exact congrArg List.sum (List.map_congr_left fun t _ => clipReserve_eq (h t))

theorem claims_lane_iff {c : TrackContext} {l : LaneNo} : c.body.claims.1 = some l ↔ ∃ x, c.clips = some x ∧ x.lane = l := by
  unfold TrackContext.clips
  cases c.body <;> simp [TrackBody.claims]

theorem tracksSound_iff {d : Device} : TracksSound d ↔ TracksShaped d ∧ LanesUnique d ∧ ReservesFit d := by
  constructor
  · rintro ⟨hs, hl, hc, hk⟩
    refine ⟨hs, fun t u x y hu hx hy e => ?_, (sum_cueReserve hs).trans_le hc, (sum_clipReserve hs).trans_le hk⟩
    exact hl t u x.lane hu (claims_lane_iff.2 ⟨x, hx, rfl⟩) (claims_lane_iff.2 ⟨y, hy, e.symm⟩)
  · rintro ⟨hs, hl, hc, hk⟩
    refine ⟨hs, fun t u l hu ht hu' => ?_, (sum_cueReserve hs).symm.trans_le hc, (sum_clipReserve hs).symm.trans_le hk⟩
    obtain ⟨x, hx, rfl⟩ := claims_lane_iff.1 ht
    obtain ⟨y, hy, e⟩ := claims_lane_iff.1 hu'
    exact hl t u x y hu hx hy e.symm

theorem sum_le_of_each {f g : Slot → Nat} {n : Nat} (h : ∀ u, g u ≤ f u) (hn : ∑ u, f u ≤ n) : ∑ u, g u ≤ n :=
  le_trans (Finset.sum_le_sum fun u _ => h u) hn

theorem TracksSound.keeps {d e : Device} (h : TracksSound d) (k : d.KeepsTracks e) : TracksSound e := by
  have lane : ∀ t l, (e.track t).body.claims.1 = some l → (d.track t).body.claims.1 = some l := by
    intro t l hl
    rcases (k.each t).claims with hc | hc <;> rw [hc] at hl
    · exact hl
    · cases hl
  have cues : ∀ t, (e.track t).body.claims.2.1 ≤ (d.track t).body.claims.2.1 := by
    intro t
    rcases (k.each t).claims with hc | hc <;> rw [hc]
    exact Nat.zero_le _
  have clips : ∀ t, (e.track t).body.claims.2.2 ≤ (d.track t).body.claims.2.2 := by
    intro t
    rcases (k.each t).claims with hc | hc <;> rw [hc]
    exact Nat.zero_le _
  exact ⟨fun t => (k.each t).shaped (h.shaped t), fun t u l hu ht hu' => h.lanes t u l hu (lane t l ht) (lane u l hu'),
    sum_le_of_each cues h.cues, sum_le_of_each clips h.clips⟩

/-- One slot alone changes: the sum over the slots grows by no more than that slot's new value. -/
theorem sum_le_of_eq_off {f g : Slot → Nat} {t : Slot} {n : Nat} (h : ∀ u, t ≠ u → g u = f u)
    (hn : ∑ u, f u + g t ≤ n) : ∑ u, g u ≤ n := by
  have each : ∀ u, g u ≤ f u + if u = t then g t else 0 := by
    intro u
    by_cases hu : u = t
    · subst hu
      simp
    · simp [hu, h u (Ne.symm hu)]
  calc ∑ u, g u ≤ ∑ u, (f u + if u = t then g t else 0) := Finset.sum_le_sum fun u _ => each u
    _ = ∑ u, f u + g t := by rw [Finset.sum_add_distrib, Finset.sum_ite_eq' Finset.univ t]; simp
    _ ≤ n := hn

/-- A slot takes a body whose claims there is room for. -/
theorem TracksSound.setTrack {d : Device} (h : TracksSound d) {t : Slot} {c : TrackContext} {lane : Option LaneNo}
    {m n : Nat} (hc : c.Shaped) (hclaims : c.body.claims = (lane, m, n))
    (hlane : ∀ l, lane = some l → ∀ u, (d.track u).body.claims.1 ≠ some l)
    (hcues : ∑ u, (d.track u).body.claims.2.1 + m ≤ Config.cuePoolSize)
    (hclips : ∑ u, (d.track u).body.claims.2.2 + n ≤ Config.clipPoolSize) :
    TracksSound (d.setTrack t c) := by
  have self : (d.setTrack t c).track t = c := d.track_setTrack_self t c
  have other : ∀ u, t ≠ u → (d.setTrack t c).track u = d.track u := fun u hu => d.track_setTrack_of_ne c hu
  refine ⟨fun u => ?shaped, fun u v l huv hu hv => ?lanes, ?cues, ?clips⟩
  case shaped =>
    by_cases hu : t = u
    · rw [← hu, self]
      exact hc
    · rw [other u hu]
      exact h.shaped u
  case lanes =>
    by_cases htu : t = u
    · subst htu
      rw [self, hclaims] at hu
      rw [other v huv] at hv
      exact hlane l hu v hv
    · rw [other u htu] at hu
      by_cases htv : t = v
      · subst htv
        rw [self, hclaims] at hv
        exact hlane l hv u hu
      · rw [other v htv] at hv
        exact h.lanes u v l huv hu hv
  case cues =>
    refine sum_le_of_eq_off (f := fun u => (d.track u).body.claims.2.1) (t := t) (fun u hu => by rw [other u hu]) ?_
    simpa only [self, hclaims] using hcues
  case clips =>
    refine sum_le_of_eq_off (f := fun u => (d.track u).body.claims.2.2) (t := t) (fun u hu => by rw [other u hu]) ?_
    simpa only [self, hclaims] using hclips

/-! ## The taking of a descriptor (R39 to R43) -/

theorem laneHolder_eq_none_iff {d : Device} {l : LaneNo} :
    d.laneHolder l = none ↔ ∀ t x, (d.track t).clips = some x → x.lane ≠ l := by
  simp only [Device.laneHolder, List.findSome?_eq_none_iff, allSlots, List.mem_finRange, true_implies]
  refine forall_congr' fun t => ?_
  cases (d.track t).clips <;> simp

theorem freeLane_spec {d : Device} {l : LaneNo} (h : d.freeLane = some l) : d.laneHolder l = none := by
  simpa using List.find?_some h

/-- The checks of a descriptor leave its reserve room in the pool of its kind (R41). -/
theorem reserveFits_of_passed {d : Device} {kind : TrackKind} {bs : List Byte} (h : d.descriptorRefusal kind bs = none) :
    d.reserveFits kind (descriptorReserve bs) = true := by
  unfold Device.descriptorRefusal at h
  repeat' split at h
  all_goals simp_all

/-- The context of a slot that has taken a descriptor (R43). -/
def openedContext (c : TrackContext) (body : TrackBody) : TrackContext :=
  { c with state := .running, fetch := none, body := body }

theorem openAs_tracks (d : Device) (t : Slot) (x : Directive) (kind : TrackKind) (lane : Option LaneNo) (body : TrackBody)
    (bs : List Byte) :
    (d.openAs t x kind lane body bs).tracks = (d.setTrack t (openedContext (d.track t) body)).tracks := rfl

theorem shaped_openedText (c : TrackContext) (x : TextTrack) : (openedContext c (.text x)).Shaped :=
  (TrackContext.shaped_text rfl).2 ⟨rfl, nofun⟩

theorem shaped_openedClips (c : TrackContext) (x : ClipTrack) : (openedContext c (.description x)).Shaped :=
  (TrackContext.shaped_clips rfl).2 ⟨rfl, nofun⟩

theorem TracksSound.takeDescriptor {d : Device} (h : TracksSound d) {t : Slot} {x : Directive} {kind : TrackKind}
    {bs : List Byte} (hp : d.descriptorRefusal kind bs = none) : TracksSound (d.takeDescriptor t x kind bs) := by
  have room := reserveFits_of_passed hp
  unfold Device.takeDescriptor
  cases kind with
  | text =>
    simp only [Device.reserveFits, decide_eq_true_eq, sum_cueReserve h.shaped] at room
    have opened := h.setTrack (t := t) (shaped_openedText (d.track t) (TextTrack.opened bs)) rfl nofun room
      ((Nat.add_zero _).trans_le h.clips)
    exact opened.keeps (.same (openAs_tracks ..))
  | description =>
    simp only [Device.reserveFits, decide_eq_true_eq, sum_clipReserve h.shaped] at room
    dsimp only
    split
    · exact h.keeps (.andThen (.setTrack (.free (d.track t))) rfl)
    · next l hl =>
      have unheld := laneHolder_eq_none_iff.1 (freeLane_spec hl)
      have opened : TracksSound (d.setTrack t (openedContext (d.track t) (.description (ClipTrack.opened bs l)))) := by
        refine h.setTrack (shaped_openedClips ..) rfl (fun k hk u hu => ?_) ((Nat.add_zero _).trans_le h.cues) room
        obtain rfl := Option.some.inj hk
        obtain ⟨y, hy, hy'⟩ := claims_lane_iff.1 hu
        exact unheld u y hy hy'
      exact opened.keeps (.same (openAs_tracks ..))

theorem keepsTracks_refuseOpen (d : Device) (t : Slot) (x : Directive) (r : RefusalReason) :
    d.KeepsTracks (d.refuseOpen t x r) :=
  .andThen (.setTrack (.free (d.track t))) rfl

theorem TracksSound.readingTrack {d : Device} (h : TracksSound d) {t : Slot} {k : TrackContext → Device}
    (hk : TracksSound (k (d.track t))) : TracksSound (d.readingTrack t k) := by
  unfold Device.readingTrack
  split
  · exact hk
  · exact h.keeps (Device.keepsTracks_tellMonitor ..)

theorem TracksSound.descriptorAnswer {d : Device} (h : TracksSound d) (t : Slot) (n : BitVec 16) (resp : Resp)
    (data : List Word) : TracksSound (d.descriptorAnswer t n resp data) := by
  refine h.readingTrack ?_
  split
  case h_1 x _ _ =>
    split
    · split
      · unfold Device.validate
        split
        · exact h.keeps (keepsTracks_refuseOpen ..)
        · split
          · exact h.keeps (keepsTracks_refuseOpen ..)
          · next hp => exact h.takeDescriptor hp
      · exact h.keeps (keepsTracks_refuseOpen ..)
    · exact h
  all_goals exact h

theorem TracksSound.descriptorArrives {d : Device} (h : TracksSound d) (tag : Nat) (resp : Resp) (data : List Word) :
    TracksSound (d.descriptorArrives tag resp data) := by
  have answered : TracksSound (d.answered tag) := h.keeps (.same rfl)
  unfold Device.descriptorArrives
  split
  · exact h
  · split
    case h_3 =>
      split
      · exact answered.descriptorAnswer ..
      · exact h
    all_goals exact h

/-! ## Events and commands -/

theorem tracksSound_free {d : Device} (h : ∀ t, d.track t = TrackContext.freeContext) : TracksSound d := by
  refine ⟨fun t => ?_, fun t u l _ hl => ?_, ?_, ?_⟩
  · rw [h t]
    exact TrackContext.shaped_free
  · rw [h t] at hl
    cases hl
  · simp [h, TrackContext.freeContext, TrackBody.claims]
  · simp [h, TrackContext.freeContext, TrackBody.claims]

theorem track_held (n : Nat) (t : Slot) : (Device.held n).track t = TrackContext.freeContext := by
  simp [Device.track_def, Device.held]

theorem TracksSound.ran {s s' : State} {work : Device → Device} (h : TracksSound s.dev)
    (hw : ∀ d, TracksSound d → TracksSound (work d)) (e : s.ran work = .next s') : TracksSound s'.dev := by
  cases e
  show TracksSound (s.dev.event work)
  unfold Device.event
  split
  · exact (hw { s.dev with ports := [] } (h.keeps (.same rfl))).keeps (.same rfl)
  · exact h.keeps (.same rfl)

theorem TracksSound.ran_keeps {s s' : State} {work : Device → Device} (h : TracksSound s.dev)
    (hw : ∀ d : Device, d.KeepsTracks (work d)) (e : s.ran work = .next s') : TracksSound s'.dev :=
  h.ran (fun d hd => hd.keeps (hw d)) e

theorem TracksSound.arrival {s s' : State} {ok : Bool} {id : Nat} {work : Device → Device} (h : TracksSound s.dev)
    (hw : ∀ d : Device, d.KeepsTracks (work d))
    (e : (if ok then (if s.dev.resetN then s.ran work else .next { s with dev := s.dev.turnedAway id })
      else .refused .notABurst) = Host.Outcome.next s') : TracksSound s'.dev := by
  split at e
  · split at e
    · exact h.ran_keeps hw e
    · cases e; exact h.keeps (.same rfl)
  · cases e

theorem TracksSound.exec {c : Instr} {s s' : State} (h : TracksSound s.dev) (e : exec c s = .next s') :
    TracksSound s'.dev := by
  cases c with
  | resetAssert => cases e; exact tracksSound_free (track_held _)
  | resetRelease cwb =>
    change execResetRelease cwb s = .next s' at e
    unfold execResetRelease at e
    split at e <;> cases e
    · exact h.keeps (.same rfl)
    · exact tracksSound_free (track_held s.dev.nextTag)
  | upstreamWrite id addr beats => exact h.arrival (fun d => d.keepsTracks_writeArrives id addr beats) e
  | upstreamRead id addr count => exact h.arrival (fun d => d.keepsTracks_readArrives id addr count) e
  | memoryGrant => exact h.ran_keeps Device.keepsTracks_grant e
  | holdTimerExpiry => exact h.ran_keeps Device.keepsTracks_timerExpires e
  | prefetchResponse tag resp data => exact h.ran_keeps (fun d => d.keepsTracks_prefetched tag resp data) e
  | throughReadResponse tag resp data => exact h.ran_keeps (fun d => d.keepsTracks_throughRead tag resp data) e
  | throughWriteResponse tag resp => exact h.ran_keeps (fun d => d.keepsTracks_throughWrite tag resp) e
  | descriptorResponse tag resp data => exact h.ran (fun _ hd => hd.descriptorArrives tag resp data) e
  | recordWriteResponse tag resp => exact h.ran_keeps (fun d => d.keepsTracks_recordWritten tag resp) e
  | reportBegin => exact h.ran_keeps (fun d => .same d.beginReport_tracks) e
  | reportWriteResponse tag resp => exact h.ran_keeps (fun d => .same (d.reportWritten_tracks tag resp)) e
  | openTrack => exact h.ran_keeps (Device.keepsTracks_trackDirective Device.keepsTracks_openTrack _) e
  | closeTrack => exact h.ran_keeps (Device.keepsTracks_trackDirective Device.keepsTracks_closeTrack _) e
  | flushTrack => exact h.ran_keeps (Device.keepsTracks_trackDirective Device.keepsTracks_flushTrack _) e
  | abortTrack => exact h.ran_keeps (Device.keepsTracks_trackDirective Device.keepsTracks_abortTrack _) e
  | retuneTrack => exact h.ran_keeps (Device.keepsTracks_trackDirective Device.keepsTracks_retuneTrack _) e
  | resumeTrack => exact h.ran_keeps (Device.keepsTracks_trackDirective Device.keepsTracks_resumeDirective _) e
  | setReportRing => exact h.ran_keeps (Device.keepsTracks_takeDirective Device.keepsTracks_setReportRing) e
  | clearBypass => exact h.ran_keeps (Device.keepsTracks_takeDirective Device.keepsTracks_clearBypass) e
  | unknownDirective => exact h.ran_keeps (Device.keepsTracks_takeDirective fun d x => d.keepsTracks_refuse x .unknown) e

end Sys2Proof.Safety

section
open Sys2Proof Sys2Proof.Machine Sys2Proof.Safety

/-- Settles O59: every command keeps the shape and the claims of the contexts but the taking of a descriptor, whose checks leave
room for the reserve and whose lane is free. -/
theorem stepKeepsTheTracks : Obligations.StepKeepsTheTracks := by
  rintro ⟨pending, d⟩ s' hs hl hr e
  have h : TracksSound d := tracksSound_iff.2 ⟨hs, hl, hr⟩
  cases pending with
  | nil => cases e; exact ⟨hs, hl, hr⟩
  | cons c rest => exact tracksSound_iff.1 (TracksSound.exec (c := c) (s := ⟨rest, d⟩) h e)

end

end

section

/-! PROOFS. The immediate parts of the track directives (spec 03): OPEN TRACK, CLOSE TRACK of a DESCRIPTION track, ABORT TRACK and
RETUNE TRACK, and the checks that FLUSH TRACK, RETUNE TRACK and RESUME TRACK share. -/

namespace Sys2Proof.Safety

open Sys2Proof Sys2Proof.Machine

/-- A track directive that passes the checks of R27 does its immediate part, and the event settles (R29). -/
theorem ran_trackDirective {s : State} {k : DirectiveKind} {x : Directive} {rest : List QueuedDirective} {t : Slot}
    (h : TakingFor s.dev k x rest t) (run : Device → Directive → Slot → TrackContext → Device) :
    s.ran (fun d => d.takeDirective k fun e x => e.dispatch x (run e x)) =
      .next { s with dev := (run (Taken s.dev rest) x t (s.dev.track t)).settle } := by
  obtain ⟨ht, hm, hs, hp⟩ := h
  rw [ran_takeDirective ht, Device.dispatch_slot (d := Taken s.dev rest) hm hs,
    Device.readingTrack_good (d := Taken s.dev rest) hp]
  rfl

theorem setTrack_setTrack (d : Device) (t : Slot) (a b : TrackContext) : (d.setTrack t a).setTrack t b = d.setTrack t b := by
  simp [Device.setTrack]

theorem setTrackState_setText (d : Device) (t : Slot) (x : TextTrack) (st : TrackState) :
    (d.setText t x).setTrackState t st = d.setTrack t { d.track t with state := st, body := .text x } := by
  rw [Device.setTrackState, Device.track_setText_self, Device.setText, setTrack_setTrack]

theorem setTrackState_setClips (d : Device) (t : Slot) (x : ClipTrack) (st : TrackState) :
    (d.setClips t x).setTrackState t st = d.setTrack t { d.track t with state := st, body := .description x } := by
  rw [Device.setTrackState, Device.track_setClips_self, Device.setClips, setTrack_setTrack]

/-! ## The checks of FLUSH TRACK, RETUNE TRACK and RESUME TRACK (R48, R49, R52) -/

theorem onText_text {d : Device} {c : TrackContext} {y : TextTrack} (hb : c.body = .text y) (hf : c.state ≠ .free)
    (hl : c.state ≠ .loading) (x : Directive) (run : TextTrack → Device) : d.onText x c run = run y := by
  unfold Device.onText
  split <;> simp_all

theorem onText_refused {d : Device} {c : TrackContext} {states : List TrackState} {r : RefusalReason}
    (h : textRefusal c states r) {applies : Bool} (ha : c.state ∈ states → applies = false)
    (hs : ∀ st ∈ states, st.holdsPool = true) (x : Directive) (run : TextTrack → Device) :
    d.onText x c (fun y => d.inState x applies (run y)) = d.refuse x r := by
  rcases h with ⟨hf, rfl⟩ | ⟨hl, rfl⟩ | ⟨hf, hl, ⟨y, hy⟩, rfl⟩ | ⟨hst, ⟨y, hy⟩, rfl⟩
  · simp [Device.onText, hf]
  · simp [Device.onText, hl]
  · unfold Device.onText
    split <;> simp_all
  · have hp := hs _ hst
    rw [onText_text hy (fun e => by simp [e, TrackState.holdsPool] at hp) (fun e => by simp [e, TrackState.holdsPool] at hp),
      Device.inState, ha hst]
    rfl

/-! ## Freeing a track (R4, R47) -/

/-- The two window entries of a slot, by their numbers (R2). -/
theorem ownEntry_iff {t : Slot} {i : EntryNo} :
    (i = intakeEntry t ∨ i = outputEntry t) ↔ (i.val = 2 + 2 * t.val ∨ i.val = 3 + 2 * t.val) := by
  simp [intakeEntry, outputEntry, Fin.ext_iff]

theorem freeTrack_windows (d : Device) (t : Slot) (i : EntryNo) :
    (d.freeTrack t).windows[i.val] =
      if i.val = 2 + 2 * t.val ∨ i.val = 3 + 2 * t.val then none else d.windows[i.val] := by
  rw [Device.freeTrack_entry]
  simp only [ownEntry_iff]

theorem matchNames_own_iff {t : Slot} {found : Option WindowMatch} :
    matchNames (fun i => decide (i = intakeEntry t) || decide (i = outputEntry t)) found = true ↔
      ∃ m, found = some m ∧ (m.entry.val = 2 + 2 * t.val ∨ m.entry.val = 3 + 2 * t.val) := by
  simp only [matchNames_iff, Bool.or_eq_true, decide_eq_true_eq, ownEntry_iff]

theorem freeTrack_writeQueue (d : Device) (t : Slot) :
    (d.freeTrack t).writeQueue = d.writeQueue.map fun w =>
      if ∃ m, w.found = some m ∧ (m.entry.val = 2 + 2 * t.val ∨ m.entry.val = 3 + 2 * t.val) then
        { w with found := none, beats := w.original, status := if w.status = .held then .ready else w.status }
      else w := by
  show (d.writeQueue.map fun w => if matchNames _ w.found then w.reverted else w) = _
  simp only [matchNames_own_iff]
  rfl

theorem freeTrack_readList (d : Device) (t : Slot) :
    (d.freeTrack t).readList = d.readList.map fun r =>
      if ∃ m, r.found = some m ∧ (m.entry.val = 2 + 2 * t.val ∨ m.entry.val = 3 + 2 * t.val) then { r with found := none }
      else r := by
  show (d.readList.map fun r => if matchNames _ r.found then { r with found := none } else r) = _
  simp only [matchNames_own_iff]

/-- A burst outstanding after its match is removed names no entry of those (R4). -/
theorem unmatched_names {p : EntryNo → Bool} {o : Outstanding} {id : Nat} {m : WindowMatch}
    (h : (o.unmatched p).purpose = .throughRead id (some m)) : p m.entry = false := by
  unfold Outstanding.unmatched at h
  split at h
  next id' found ho =>
    split at h
    · cases h
    · next hn =>
      rw [ho] at h
      cases h
      simpa [matchNames] using hn
  all_goals
    next ho =>
    rw [ho] at h
    cases h

/-! ## OPEN TRACK (R37) -/

/-- The context of a slot that OPEN TRACK has put in LOADING: its descriptor read waits for the writes that came before. -/
def loadingContext (d : Device) (x : Directive) : TrackContext :=
  { TrackContext.freeContext with
    state := .loading
    opening := some x
    descriptorAddr := some x.address1
    fetch := some d.nextArrival }

theorem openTrack_busy {d : Device} {c : TrackContext} (h : c.state ≠ .free) (x : Directive) (t : Slot) :
    d.openTrack x t c = d.refuse x .busy :=
  if_pos h

theorem openTrack_address {d : Device} {c : TrackContext} (h : c.state = .free) {x : Directive}
    (ha : x.address1.toNat % 128 ≠ 0) (t : Slot) : d.openTrack x t c = d.refuse x .address := by
  simp [Device.openTrack, h, ha]

theorem openTrack_loading {d : Device} {c : TrackContext} (h : c.state = .free) {x : Directive}
    (ha : x.address1.toNat % 128 = 0) (t : Slot) : d.openTrack x t c = d.setTrack t (loadingContext d x) := by
  simp [Device.openTrack, h, ha, loadingContext]

theorem descriptorRead_loading {d e : Device} {t : Slot} {x : Directive} (he : e.track t = loadingContext d x) :
    e.descriptorRead t = if e.readClear d.nextArrival x.address1 16 then some (x, x.address1) else none := by
  unfold Device.descriptorRead
  simp [he, loadingContext]

/-! ## CLOSE TRACK (R44) -/

theorem closeTrack_refused {d : Device} {c : TrackContext} {r : RefusalReason}
    (h : (c.state, r) ∈ [(TrackState.free, RefusalReason.notOpen), (.loading, .busy), (.draining, .state), (.faulted, .state)])
    (x : Directive) (t : Slot) : d.closeTrack x t c = d.refuse x r := by
  simp only [List.mem_cons, List.not_mem_nil, or_false, Prod.mk.injEq] at h
  obtain ⟨hs, rfl⟩ | ⟨hs, rfl⟩ | ⟨hs, rfl⟩ | ⟨hs, rfl⟩ := h <;> simp [Device.closeTrack, hs]

theorem closeTrack_clips {d : Device} {c : TrackContext} {y : ClipTrack} (hb : c.body = .description y)
    (hs : c.state = .running ∨ c.state = .degraded) (x : Directive) (t : Slot) :
    d.closeTrack x t c = d.drainClips t y (decide (c.state = .degraded)) := by
  rcases hs with hs | hs <;> simp [Device.closeTrack, hb, hs]

theorem closeTrack_text {d : Device} {c : TrackContext} {y : TextTrack} (hb : c.body = .text y)
    (hs : c.state = .running ∨ c.state = .stalled) (x : Directive) (t : Slot) :
    d.closeTrack x t c = d.drainText t y := by
  rcases hs with hs | hs <;> simp [Device.closeTrack, hb, hs]

/-- The context of a DESCRIPTION track that CLOSE TRACK has put in DRAINING (R44, R46). -/
def drainingContext (c : TrackContext) (y : ClipTrack) (degraded : Bool) : TrackContext :=
  { c with state := .draining, body := .description { y with degradedMark := some degraded } }

theorem drainClips_eq (d : Device) (t : Slot) (y : ClipTrack) (degraded : Bool) :
    d.drainClips t y degraded = (d.setTrack t (drainingContext (d.track t) y degraded)).endDrain t := by
  rw [Device.drainClips, setTrackState_setClips]
  rfl

theorem endDrain_of_clips {d : Device} {t : Slot} (h : d.trackClips t ≠ []) : d.endDrain t = d := by
  simp [Device.endDrain, h]

theorem endDrain_of_state {d : Device} {t : Slot} (h : (d.track t).state ≠ .draining) : d.endDrain t = d := by
  simp [Device.endDrain, h]

/-- A drain that ends is summarised, and the slot is freed (R46, R47). -/
theorem endDrain_of_empty {d : Device} {t : Slot} {y : ClipTrack} (hs : (d.track t).state = .draining)
    (hb : (d.track t).body = .description y) (h : d.trackClips t = []) :
    d.endDrain t = (d.post (.trackSummary t .description y.counters.laneFlags y.counters.words)).freeTrack t := by
  simp [Device.endDrain, hs, h, Device.completeDrain, trackSummary, hb]

/-! ## RETUNE TRACK (R49) -/

theorem retuneTrack_eq {d : Device} {c : TrackContext} {y : TextTrack} (hb : c.body = .text y)
    (hs : c.state = .running ∨ c.state = .stalled) (x : Directive) (t : Slot) :
    d.retuneTrack x t c =
      if x.retuneTuning.segmentLength = 0 ∨ 600 < x.retuneTuning.segmentLength then d.refuse x .segment
      else d.setText t { y with pendingRetune := some x.retuneTuning } := by
  have ha : c.state.runsOrStalls = true := by rcases hs with hs | hs <;> simp [hs, TrackState.runsOrStalls]
  rw [Device.retuneTrack, onText_text hb (by rcases hs with hs | hs <;> simp [hs]) (by rcases hs with hs | hs <;> simp [hs]),
    Device.inState, if_pos ha]

end Sys2Proof.Safety

section
open Sys2Proof Sys2Proof.Machine Sys2Proof.Safety

/-- Settles O17: the checks of R37 in order, and the LOADING context with its read. -/
theorem openTrackRequestsTheDescriptor : Obligations.OpenTrackRequestsTheDescriptor := by
  intro s x rest t h
  have he : exec .openTrack s = _ := ran_trackDirective h Device.openTrack
  refine ⟨fun hs => ?busy, fun hs ha => ?address, fun hs ha => ?loading⟩
  case busy => rw [he, openTrack_busy hs]
  case address => rw [he, openTrack_address hs ha]
  case loading =>
    refine ⟨_, he, ?_, ?_⟩ <;> rw [openTrack_loading hs ha]
    · rfl
    · exact descriptorRead_loading (d := s.dev) (Device.track_setTrack_self ..)

/-- Settles O18: a drain with clips left goes on, and one with none completes at once. -/
theorem closeTrackDrainsDescription : Obligations.CloseTrackDrainsDescription := by
  intro s x rest t h
  have he : exec .closeTrack s = _ := ran_trackDirective h Device.closeTrack
  refine ⟨fun r hr => by rw [he, closeTrack_refused hr], fun y hb hs => ?_⟩
  rw [closeTrack_clips hb hs, drainClips_eq] at he
  generalize hg : decide ((s.dev.track t).state = .degraded) = degraded at he ⊢
  let e := (Taken s.dev rest).setTrack t (drainingContext (s.dev.track t) y degraded)
  refine ⟨fun hclips => ?_, fun hclips => ?_⟩
  · rw [he]
    exact congrArg (fun f : Device => Host.Outcome.next { s with dev := f.settle }) (endDrain_of_clips (d := e) hclips)
  · have self : e.track t = drainingContext (s.dev.track t) y degraded := Device.track_setTrack_self ..
    have freed := endDrain_of_empty (d := e) (congrArg TrackContext.state self) (congrArg TrackContext.body self) hclips
    let f := e.post (.trackSummary t .description y.counters.laneFlags y.counters.words)
    refine ⟨(f.freeTrack t).settle, he.trans (congrArg (fun g : Device => Host.Outcome.next { s with dev := g.settle }) freed),
      f.track_freeTrack_self t, rfl, fun u hu => ?_, freeTrack_windows f t, f.freeTrack_cue t, f.freeTrack_clip t⟩
    exact (f.track_freeTrack_of_ne (Ne.symm hu)).trans (Device.track_setTrack_of_ne (Taken s.dev rest) _ (Ne.symm hu))

/-- Settles O21: the freeing of R47, field by field. -/
theorem abortTrackFreesTheSlot : Obligations.AbortTrackFreesTheSlot := by
  intro s x rest t h
  have he : exec .abortTrack s = _ := ran_trackDirective h Device.abortTrack
  refine ⟨fun hs => by rw [he, Device.abortTrack, if_pos hs], fun hs => ?_⟩
  rw [Device.abortTrack, if_neg hs] at he
  refine ⟨_, he, Device.track_freeTrack_self _ t, fun u hu => Device.track_freeTrack_of_ne _ (Ne.symm hu),
    freeTrack_windows _ t, Device.freeTrack_cue _ t, Device.freeTrack_clip _ t, freeTrack_writeQueue _ t,
    freeTrack_readList _ t, ?tags, fun o ho id m hm => ?names, rfl, rfl, rfl, rfl⟩
  case tags =>
    show (s.dev.outstanding.map _).map _ = _
    rw [List.map_map]
    exact List.map_congr_left fun o _ => unmatched_tag _ o
  case names =>
    obtain ⟨b, -, rfl⟩ := List.mem_map.1 ho
    have unnamed := unmatched_names hm
    rw [Bool.or_eq_false_iff, decide_eq_false_iff_not, decide_eq_false_iff_not, ← not_or, ownEntry_iff, not_or] at unnamed
    exact unnamed

/-- Settles O22: the checks of R49 in order, and the pending retune. -/
theorem retuneTrackIsPending : Obligations.RetuneTrackIsPending := by
  intro s x rest t h
  have he : exec .retuneTrack s = _ := ran_trackDirective h Device.retuneTrack
  refine ⟨fun r hr => ?refused, ?stored⟩
  case refused =>
    rw [he, Device.retuneTrack, onText_refused hr (fun hst => ?_) (by decide)]
    simp only [List.mem_cons, List.not_mem_nil, or_false] at hst
    rcases hst with hst | hst <;> rw [hst] <;> rfl
  case stored =>
    rintro y _ hb hs rfl
    rw [retuneTrack_eq hb hs] at he
    have length : (x.operand1.extractLsb' 0 16).toNat = x.retuneTuning.segmentLength := rfl
    rw [length]
    refine ⟨fun hbad => by rw [he, if_pos hbad], fun h1 h2 => ?_⟩
    rw [he, if_neg (by omega)]
    rfl

end

end

section

/-! PROOFS. The response to a descriptor read (R38 to R43): the checks in order, and the taking of a descriptor of either kind. -/

namespace Sys2Proof.Machine

open Sys2Proof Sys2Proof.Safety

/-! ## The first entry of a list that applies -/

open Classical in
/-- The first entry of a list that has a property. -/
noncomputable def firstThat {α : Type} (p : α → Prop) : List α → Option α
  | [] => none
  | a :: l => if p a then some a else firstThat p l

theorem firstThat_split {α : Type} {p : α → Prop} {before after : List α} {a : α} (hb : ∀ q ∈ before, ¬p q) (ha : p a) :
    firstThat p (before ++ a :: after) = some a := by
  induction before with
  | nil => exact if_pos ha
  | cons b before ih =>
    rw [List.cons_append, firstThat, if_neg (hb b (by simp))]
    exact ih fun q hq => hb q (List.mem_cons_of_mem _ hq)

theorem firstThat_eq_none {α : Type} {p : α → Prop} {l : List α} (h : ∀ q ∈ l, ¬p q) : firstThat p l = none := by
  induction l with
  | nil => rfl
  | cons b l ih =>
    rw [firstThat, if_neg (h b (by simp))]
    exact ih fun q hq => h q (List.mem_cons_of_mem _ hq)

/-- Two decisions with the same first outcome agree when their conditions and their other outcomes do, however their conditions
are decided. -/
theorem ite_eq_ite {α : Type} {p q : Prop} {dp : Decidable p} {dq : Decidable q} {x y z : α} (h : p ↔ q) (hy : y = z) :
    (@ite α p dp x y) = @ite α q dq x z := by
  subst hy
  by_cases hp : p
  · rw [if_pos hp, if_pos (h.1 hp)]
  · rw [if_neg hp, if_neg fun hq => hp (h.2 hq)]

/-! ## The checks of R39 -/

theorem outOfRange_iff {code : Nat} {x : Timecode} : x.outOfRange code = true ↔ badLabel code x := by
  simp [Timecode.outOfRange, badLabel, or_assoc]

theorem ringPlaced_eq_false_iff {base : Addr} {size lo hi : Nat} :
    ringPlaced base size lo hi = false ↔ misplaced base size lo hi := by
  simp only [ringPlaced, misplaced, Bool.and_eq_false_iff, decide_eq_false_iff_not]
  omega

theorem ringsPlaced_eq_false_iff {kind : TrackKind} {bs : List Byte} :
    ringsPlaced kind bs = false ↔ misplaced (addrField bs 8) (field bs 16 4) 4096 65536 ∨
      (kind = .text ∧ misplaced (addrField bs 24) (field bs 20 4) 16384 65536) ∨
      (kind = .description ∧ misplaced (addrField bs 24) (field bs 20 4) 65536 16777216) := by
  cases kind <;>
    simp only [ringsPlaced, Bool.and_eq_false_iff, ringPlaced_eq_false_iff, reduceCtorEq, true_and, false_and, or_false,
      false_or] <;> rfl

theorem reserveFits_eq_false_iff {d : Device} {kind : TrackKind} {n : Nat} :
    d.reserveFits kind n = false ↔ (kind = .text ∧ 256 < (allSlots.map d.cueReserve).sum + n) ∨
      (kind = .description ∧ 64 < (allSlots.map d.clipReserve).sum + n) := by
  cases kind <;> simp only [Device.reserveFits, decide_eq_false_iff_not, Nat.not_le] <;> simp [Config.cuePoolSize, Config.clipPoolSize]

theorem laneHolder_isSome_iff {d : Device} {l : LaneNo} :
    (d.laneHolder l).isSome = true ↔ ∃ t x, (d.track t).clips = some x ∧ x.lane = l := by
  rw [Option.isSome_iff_ne_none, ne_eq, laneHolder_eq_none_iff]
  simp

theorem freeLane_eq_none_iff {d : Device} :
    d.freeLane = none ↔ ∀ l : LaneNo, ∃ t x, (d.track t).clips = some x ∧ x.lane = l := by
  simp only [Device.freeLane, allLanes, List.find?_eq_none, List.mem_finRange, true_implies, ← laneHolder_isSome_iff]
  exact forall_congr' fun l => by cases d.laneHolder l <;> simp

theorem rangesOverlap_iff {a m b n : Nat} : rangesOverlap a m b n = true ↔ a < b + n ∧ b < a + m := by
  simp [rangesOverlap]

theorem rangeFree_none_eq_false_iff {d : Device} {base : Addr} {size : Nat} :
    d.rangeFree none base size = false ↔ meetsWindow d base size := by
  rw [← Bool.not_eq_true, Device.rangeFree_iff]
  simp [meetsWindow, rangesOverlap_iff]

theorem ringsFree_eq_false_iff {d : Device} {bs : List Byte} :
    d.ringsFree bs = false ↔ meetsWindow d (addrField bs 8) (field bs 16 4) ∨
      meetsWindow d (addrField bs 24) (field bs 20 4) ∨
      ((addrField bs 8).toNat < (addrField bs 24).toNat + field bs 20 4 ∧
        (addrField bs 24).toNat < (addrField bs 8).toNat + field bs 16 4) := by
  simp only [Device.ringsFree, Bool.and_eq_false_iff, rangeFree_none_eq_false_iff, Bool.not_eq_false', rangesOverlap_iff,
    or_assoc]
  rfl

theorem descriptorKind_text {bs : List Byte} : descriptorKind bs = some .text ↔ field bs 0 1 = 1 := by
  unfold descriptorKind
  split
  · simp [*]
  · split <;> simp [*]

theorem descriptorKind_description {bs : List Byte} : descriptorKind bs = some .description ↔ field bs 0 1 = 2 := by
  unfold descriptorKind
  split
  · simp [*]
  · split <;> simp [*]

theorem descriptorKind_none {bs : List Byte} : descriptorKind bs = none ↔ field bs 0 1 ≠ 1 ∧ field bs 0 1 ≠ 2 := by
  unfold descriptorKind
  split
  · simp [*]
  · split <;> simp [*]

/-- The checks of a descriptor of a known kind are those of R39 after the first, in their order. -/
theorem descriptorRefusal_eq {d : Device} {kind : TrackKind} {bs : List Byte} (h : descriptorKind bs = some kind) :
    d.descriptorRefusal kind bs = (firstThat Prod.snd (descriptorChecks d bs).tail).map Prod.fst := by
  have text : kind = .text ↔ field bs 0 1 = 1 := by
    rw [← descriptorKind_text, h, Option.some.injEq]
  have description : kind = .description ↔ field bs 0 1 = 2 := by
    rw [← descriptorKind_description, h, Option.some.injEq]
  have dropFrame : descriptorDropFrame bs = true ↔ field bs 2 1 % 2 = 1 := decide_eq_true_iff
  simp only [descriptorChecks, List.tail_cons, firstThat, apply_ite (Option.map Prod.fst), Option.map_some, Option.map_none,
    ← text, ← description]
  unfold Device.descriptorRefusal
  refine ite_eq_ite Iff.rfl (ite_eq_ite ?dropFrame (ite_eq_ite ?origin (ite_eq_ite Iff.rfl (ite_eq_ite ?rings
    (ite_eq_ite ?reserve (ite_eq_ite ?lane (ite_eq_ite ?overlap rfl)))))))
  case dropFrame => rw [dropFrame]; rfl
  case origin => exact outOfRange_iff
  case rings => rw [Bool.not_eq_true', ringsPlaced_eq_false_iff]
  case reserve => rw [Bool.not_eq_true', reserveFits_eq_false_iff]; rfl
  case lane => rw [freeLane_eq_none_iff]
  case overlap => rw [Bool.not_eq_true', ringsFree_eq_false_iff]

/-- A descriptor that fails a check is refused with the reason of the first that it fails (R39). -/
theorem validate_refused {d : Device} {bs : List Byte} {reason : RefusalReason} {fails : Prop}
    (h : firstThat Prod.snd (descriptorChecks d bs) = some (reason, fails)) (t : Slot) (x : Directive) :
    d.validate t x bs = d.refuseOpen t x reason := by
  unfold Device.validate
  cases hk : descriptorKind bs with
  | none =>
    rw [descriptorChecks, firstThat, if_pos (descriptorKind_none.1 hk)] at h
    cases h
    rfl
  | some kind =>
    have known : ¬(field bs 0 1 ≠ 1 ∧ field bs 0 1 ≠ 2) := fun hn => by simp [descriptorKind_none.2 hn] at hk
    have rest : firstThat Prod.snd (descriptorChecks d bs).tail = some (reason, fails) := (if_neg known).symm.trans h
    simp [descriptorRefusal_eq hk, rest]

theorem validate_passed {d : Device} {bs : List Byte} {kind : TrackKind} (hk : descriptorKind bs = some kind)
    (h : ∀ q ∈ descriptorChecks d bs, ¬q.2) (t : Slot) (x : Directive) : d.validate t x bs = d.takeDescriptor t x kind bs := by
  have passed : d.descriptorRefusal kind bs = none := by
    rw [descriptorRefusal_eq hk, firstThat_eq_none fun q hq => h q (List.mem_of_mem_tail hq)]
    rfl
  simp [Device.validate, hk, passed]

/-! ## Flags as bits (spec 12 section 12.3) -/

/-- Bit `b` is set by flags that stand from bit `i` upward. -/
def FlagAt : Nat → List Bool → Nat → Prop
  | _, [], _ => False
  | i, c :: l, b => b = i ∧ c = true ∨ FlagAt (i + 1) l b

theorem flagBitsFrom_eq_mul (i : Nat) (l : List Bool) : ∃ v, flagBitsFrom i l = 2 ^ i * v := by
  induction l generalizing i with
  | nil => exact ⟨0, rfl⟩
  | cons c l ih =>
    obtain ⟨v, hv⟩ := ih (i + 1)
    refine ⟨c.toNat + 2 * v, ?_⟩
    rw [flagBitsFrom, hv, flagBit]
    cases c
    · simp
      ring
    · simp
      ring

theorem testBit_flagBitsFrom (i : Nat) (l : List Bool) (b : Nat) : (flagBitsFrom i l).testBit b = true ↔ FlagAt i l b := by
  induction l generalizing i with
  | nil => simp [flagBitsFrom, FlagAt]
  | cons c l ih =>
    obtain ⟨v, hv⟩ := flagBitsFrom_eq_mul (i + 1) l
    have split : flagBitsFrom i (c :: l) = 2 ^ i * (2 * v + c.toNat) := by
      rw [flagBitsFrom, hv, flagBit]
      cases c
      · simp
        ring
      · simp
        ring
    rw [FlagAt, ← ih (i + 1), split, hv, Nat.testBit_two_pow_mul, Nat.testBit_two_pow_mul]
    rcases Nat.lt_trichotomy b i with hb | rfl | hb
    · simp [Nat.not_le.2 hb, Nat.not_le.2 (Nat.lt_succ_of_lt hb), Nat.ne_of_lt hb]
    · cases c <;> simp [Nat.testBit_zero]
    · obtain ⟨k, rfl⟩ := Nat.exists_eq_add_of_lt hb
      have half : (2 * v + c.toNat) / 2 = v := by
        cases c
        · simp
        · simp
          omega
      rw [show i + k + 1 - i = k + 1 by omega, show i + k + 1 - (i + 1) = k by omega, Nat.testBit_succ, half]
      simp only [show i ≤ i + k + 1 by omega, show i + 1 ≤ i + k + 1 by omega, show i + k + 1 ≠ i by omega]
      simp

theorem flagBitsFrom_append (i : Nat) (l m : List Bool) :
    flagBitsFrom i (l ++ m) = flagBitsFrom i l + flagBitsFrom (i + l.length) m := by
  induction l generalizing i with
  | nil => simp [flagBitsFrom]
  | cons c l ih => simp [flagBitsFrom, ih, Nat.add_assoc, Nat.add_comm 1]

theorem flagAt_append (i : Nat) (l m : List Bool) (b : Nat) :
    FlagAt i (l ++ m) b ↔ FlagAt i l b ∨ FlagAt (i + l.length) m b := by
  induction l generalizing i with
  | nil => simp [FlagAt]
  | cons c l ih => simp [FlagAt, ih, or_assoc, Nat.add_assoc, Nat.add_comm 1]

theorem flagAt_replicate (i n b : Nat) : ¬FlagAt i (List.replicate n false) b := by
  induction n generalizing i with
  | zero => exact id
  | succ n ih => simpa [List.replicate_succ, FlagAt] using ih (i + 1)

theorem flagBitsFrom_replicate (i n : Nat) : flagBitsFrom i (List.replicate n false) = 0 := by
  induction n generalizing i with
  | zero => rfl
  | succ n ih => simp [List.replicate_succ, flagBitsFrom, flagBit, ih]

theorem flagAt_lt {i b : Nat} {l : List Bool} (h : FlagAt i l b) : b < i + l.length := by
  induction l generalizing i with
  | nil => exact h.elim
  | cons c l ih =>
    rcases h with ⟨rfl, -⟩ | h
    · simp
    · simpa [Nat.add_assoc, Nat.add_comm 1] using ih h

/-- A flag in bit 31 beside flags from bit `i` upward. -/
theorem testBit_flag31 {i : Nat} {l : List Bool} (h : i + l.length ≤ 31) (a : Bool) (b : Nat) :
    (flagBit a 31 + flagBitsFrom i l).testBit b = true ↔ FlagAt i l b ∨ b = 31 ∧ a = true := by
  have whole : flagBit a 31 + flagBitsFrom i l =
      flagBitsFrom i (l ++ (List.replicate (31 - (i + l.length)) false ++ [a])) := by
    rw [flagBitsFrom_append, flagBitsFrom_append, flagBitsFrom_replicate, List.length_replicate,
      show i + l.length + (31 - (i + l.length)) = 31 by omega]
    simp [flagBitsFrom, Nat.add_comm]
  rw [whole, testBit_flagBitsFrom, flagAt_append, flagAt_append, List.length_replicate,
    show i + l.length + (31 - (i + l.length)) = 31 by omega]
  simp [flagAt_replicate, FlagAt]

theorem originAdjusted_iff {bs : List Byte} : originAdjusted bs = true ↔ originIsDropped bs := by
  simp only [originAdjusted, Timecode.isDropped, Bool.and_eq_true, decide_eq_true_eq]
  constructor
  · rintro ⟨⟨⟨flag, ss⟩, ff⟩, mm⟩
    exact ⟨of_decide_eq_true flag, ff, ss, mm⟩
  · rintro ⟨flag, ff, ss, mm⟩
    exact ⟨⟨⟨decide_eq_true flag, ss⟩, ff⟩, mm⟩

theorem clampWord_text_bit (bs : List Byte) (b : Nat) :
    (clampWord .text bs (originAdjusted bs)).getLsbD b = true ↔
      (b = 0 ∧ 600 < field bs 50 2) ∨ (b = 1 ∧ 15 < field bs 52 1) ∨ (b = 2 ∧ 120 < field bs 53 1) ∨
        (b = 3 ∧ 60 < field bs 54 1) ∨ (b = 4 ∧ (field bs 55 1 < 20 ∨ 48 < field bs 55 1)) ∨
        (b = 5 ∧ field bs 56 1 ≠ 0 ∧ field bs 56 1 ≠ 1) ∨ (b = 6 ∧ field bs 57 1 ≠ 0 ∧ field bs 57 1 ≠ 1) ∨
        (b = 31 ∧ originIsDropped bs) := by
  rw [clampWord, BitVec.getLsbD_ofNat, Bool.and_eq_true, decide_eq_true_eq,
    testBit_flag31 (i := 0) (l := textClamps bs) (Nat.le_of_ble_eq_true rfl), originAdjusted_iff,
    and_iff_right_of_imp (fun h => h.elim (fun h => (flagAt_lt h).trans (Nat.le_of_ble_eq_true rfl)) fun h31 => h31.1.trans_lt (by decide))]
  have policy : ∀ n, 1 < n ↔ n ≠ 0 ∧ n ≠ 1 := by omega
  simp only [textClamps, FlagAt, decide_eq_true_eq, Bool.or_eq_true, Nat.reduceAdd, or_assoc, or_false, policy]

theorem clampWord_description_bit (bs : List Byte) (b : Nat) :
    (clampWord .description bs (originAdjusted bs)).getLsbD b = true ↔
      (b = 8 ∧ 2000 < field bs 48 2) ∨ (b = 9 ∧ 4000 < field bs 50 2) ∨ (b = 10 ∧ 32768 < field bs 52 2) ∨
        (b = 11 ∧ 32768 < field bs 54 2) ∨ (b = 12 ∧ 32768 < field bs 62 2) ∨ (b = 13 ∧ 32768 < field bs 64 2) ∨
        (b = 14 ∧ 32768 < field bs 68 2) ∨ (b = 15 ∧ field bs 56 1 ∉ [0, 2, 3]) ∨ (b = 16 ∧ 32767 < field bs 58 2) ∨
        (b = 17 ∧ 8191 < field bs 60 2) ∨ (b = 18 ∧ (field bs 66 2 = 0 ∨ 32767 < field bs 66 2)) ∨
        (b = 19 ∧ (field bs 70 2 < 10 ∨ 1000 < field bs 70 2)) ∨ (b = 31 ∧ originIsDropped bs) := by
  rw [clampWord, BitVec.getLsbD_ofNat, Bool.and_eq_true, decide_eq_true_eq,
    testBit_flag31 (i := 8) (l := descriptionClamps bs) (Nat.le_of_ble_eq_true rfl), originAdjusted_iff,
    and_iff_right_of_imp (fun h => h.elim (fun h => (flagAt_lt h).trans (Nat.le_of_ble_eq_true rfl)) fun h31 => h31.1.trans_lt (by decide))]
  have mode : ∀ n, n = 1 ∨ 3 < n ↔ n ∉ [0, 2, 3] := by
    intro n
    simp only [List.mem_cons, List.not_mem_nil, or_false]
    omega
  simp only [descriptionClamps, FlagAt, decide_eq_true_eq, Bool.or_eq_true, Nat.reduceAdd, or_assoc, or_false, mode]
  rfl

/-! ## The answer of a descriptor read -/

/-- A response that fits its descriptor read takes the burst off the port and is answered for its slot (R17, R38). -/
theorem ran_descriptorAnswer {s : State} {tag : Nat} {o : Outstanding} {t : Slot} {capture : BitVec 16} {data : List Word}
    (h : Answering s.dev tag o (.descriptor t capture)) (hl : data.length = o.count) (resp : Resp) :
    exec (.descriptorResponse tag resp data) s =
      .next { s with dev := ((Answered s.dev tag).descriptorAnswer t capture resp data).settle } := by
  obtain ⟨hr, ho, hp⟩ := h
  have fits : dataFits o resp data = true := by
    cases resp
    · exact decide_eq_true hl
    · rfl
  have found : Device.outstandingOf { s.dev with ports := [] } tag = some o := ho
  show s.ran _ = _
  rw [State.ran_released hr]
  simp only [Device.descriptorArrives, found, hp, fits]
  rfl

theorem descriptorAnswer_loading {d : Device} {t : Slot} (hp : (d.track t).parityOk = true)
    (hs : (d.track t).state = .loading) {x : Directive} (hx : (d.track t).opening = some x) (data : List Word) :
    d.descriptorAnswer t x.capture .ok data = d.validate t x (dataBytes data) ∧
      d.descriptorAnswer t x.capture .error data = d.refuseOpen t x .memoryError := by
  simp [Device.descriptorAnswer, Device.readingTrack_good hp, hs, hx]

theorem descriptorAnswer_discarded {d : Device} {t : Slot} (hp : (d.track t).parityOk = true) {capture : BitVec 16}
    (h : (d.track t).state = .free ∨
      (d.track t).state = .loading ∧ ∃ x, (d.track t).opening = some x ∧ x.capture ≠ capture)
    (resp : Resp) (data : List Word) : d.descriptorAnswer t capture resp data = d := by
  rw [Device.descriptorAnswer, Device.readingTrack_good hp]
  rcases h with hs | ⟨hs, x, hx, hne⟩
  · simp [hs]
  · simp [hs, hx, hne]

/-! ## The taking of a descriptor (R40, R43) -/

theorem openAs_windows (d : Device) (t : Slot) (x : Directive) (kind : TrackKind) (lane : Option LaneNo) (body : TrackBody)
    (bs : List Byte) (i : EntryNo) :
    (d.openAs t x kind lane body bs).windows[i.val] =
      if i.val = 2 + 2 * t.val then some ⟨⟨addrField bs 8, field bs 16 4, kind.intake, some t⟩, true⟩
      else if i.val = 3 + 2 * t.val then some ⟨⟨addrField bs 24, field bs 20 4, kind.output, some t⟩, true⟩
      else d.windows[i.val] := by
  have intake : i = intakeEntry t ↔ i.val = 2 + 2 * t.val := Fin.ext_iff
  have output : i = outputEntry t ↔ i.val = 3 + 2 * t.val := Fin.ext_iff
  refine (Device.install_entry _ (outputEntry t) i _).trans ?_
  rw [Device.install_entry]
  simp only [intake, output]
  by_cases h : i.val = 2 + 2 * t.val
  · rw [if_pos h, if_pos h, if_neg (by omega)]
    rfl
  · rw [if_neg h, if_neg h]
    rfl

/-- The taking of a descriptor touches the slot's context, the windows and the reports alone (R43). -/
theorem openAs_same (d : Device) (t : Slot) (x : Directive) (kind : TrackKind) (lane : Option LaneNo) (body : TrackBody)
    (bs : List Byte) :
    let e := (d.openAs t x kind lane body bs).settle
    e.cuePool = d.cuePool ∧ e.clipPool = d.clipPool ∧ e.writeQueue = d.writeQueue ∧ e.readList = d.readList ∧
      e.engine = d.engine ∧ e.monitor = d.monitor ∧ e.outstanding = d.outstanding := by
  simp [Device.openAs, Device.installRings]

theorem openAs_reports (d : Device) (t : Slot) (x : Directive) (kind : TrackKind) (lane : Option LaneNo) (body : TrackBody)
    (bs : List Byte) :
    (d.openAs t x kind lane body bs).settle.reports =
      d.reports.posted (.trackOpened t x.capture x.place kind lane (clampWord kind bs (originAdjusted bs))) := by
  simp [Device.openAs, Device.installRings]

theorem clampColumns_eq (v : Nat) : clampColumns v = if v = 0 then 42 else max 20 (min 48 v) := by
  unfold clampColumns
  split
  · rfl
  · split <;> omega

theorem clampFullTarget_eq (v : Nat) : clampFullTarget v = max 1 (min 32767 v) := by
  unfold clampFullTarget
  split <;> omega

theorem clampHoldLimit_eq (v : Nat) : clampHoldLimit v = max 10 (min 1000 v) := by
  unfold clampHoldLimit
  split <;> omega

theorem trimOf_eq (v : Nat) : trimOf v = ((v + 8) % 16 : Nat) - (8 : Int) := by
  unfold trimOf
  split <;> omega

theorem textCounters_zero_words : ∀ n ∈ TextCounters.zero.words, n = 0 := by decide

theorem clipCounters_zero_words : ∀ n ∈ ClipCounters.zero.words, n = 0 := by decide

theorem clipCounters_zero_laneFlags : ∀ b ∈ ClipCounters.zero.laneFlags, b = false := by decide

/-- No lane is free exactly where the check for one fails (R42). -/
theorem freeLane_of_passed {d : Device} {bs : List Byte} (hk : field bs 0 1 = 2) (h : ∀ q ∈ descriptorChecks d bs, ¬q.2) :
    ∃ l, d.freeLane = some l := by
  have check : (RefusalReason.noLane, field bs 0 1 = 2 ∧ ∀ l : LaneNo, ∃ t x, (d.track t).clips = some x ∧ x.lane = l) ∈
      descriptorChecks d bs := by simp [descriptorChecks]
  exact Option.ne_none_iff_exists'.1 fun hn => h _ check ⟨hk, freeLane_eq_none_iff.1 hn⟩

/-- The free lane is the lowest-numbered one that no track holds (R42). -/
theorem freeLane_lowest {d : Device} {l : LaneNo} (h : d.freeLane = some l) {k : LaneNo} (hk : k < l) :
    ∃ t x, (d.track t).clips = some x ∧ x.lane = k := by
  obtain ⟨-, before, after, split, held⟩ := List.find?_eq_some_iff_append.1 h
  have mem : k ∈ before := by
    have sorted : (before ++ l :: after).Pairwise (· < ·) := split ▸ List.pairwise_lt_finRange 4
    have whole : k ∈ before ++ l :: after := split ▸ List.mem_finRange k
    rcases List.mem_append.1 whole with hb | hb
    · exact hb
    · rcases List.mem_cons.1 hb with rfl | hb
      · exact absurd hk (lt_irrefl _)
      · exact absurd hk (List.rel_of_pairwise_cons (List.pairwise_append.1 sorted).2.1 hb).asymm
  exact laneHolder_isSome_iff.1 (by simpa using held k mem)

end Sys2Proof.Machine

section
open Sys2Proof Sys2Proof.Machine Sys2Proof.Safety

/-- Settles O24: the first failing check gives the reason, and a stale response changes nothing of its slot. -/
theorem descriptorRefusalsComeInOrder : Obligations.DescriptorRefusalsComeInOrder := by
  intro s tag o t capture data h hp hl
  have answer := ran_descriptorAnswer h hl
  refine ⟨?live, fun resp hd => ?stale⟩
  case live =>
    rintro x hs hx rfl
    obtain ⟨ok, error⟩ := descriptorAnswer_loading (d := Answered s.dev tag) hp hs hx data
    refine ⟨(answer .error).trans (by rw [error]; rfl), fun before reason fails after split passed failed => ?_⟩
    have first : firstThat Prod.snd (descriptorChecks (Answered s.dev tag) (dataBytes data)) = some (reason, fails) :=
      (congrArg (firstThat Prod.snd) split).trans (firstThat_split passed failed)
    rw [answer .ok, ok, validate_refused first]
    rfl
  case stale => rw [answer resp, descriptorAnswer_discarded (d := Answered s.dev tag) hp hd]

/-- Settles O25: the opened TEXT track field by field, with R40's clamps. -/
theorem textDescriptorIsTaken : Obligations.TextDescriptorIsTaken := by
  rintro s tag o t data x _ h hp hl rfl hs hx hk passed
  have taken := (descriptorAnswer_loading (d := Answered s.dev tag) hp hs hx data).1.trans
    (validate_passed (d := Answered s.dev tag) (descriptorKind_text.2 hk) passed t x)
  generalize dataBytes data = bs at taken ⊢
  let e := (Answered s.dev tag).openAs t x .text none (.text (TextTrack.opened bs)) bs
  refine ⟨e.settle, TextTrack.opened bs, clampWord .text bs (originAdjusted bs),
    (ran_descriptorAnswer h hl .ok).trans (by rw [taken]; rfl), Device.track_setTrack_self (Answered s.dev tag) .., ?settings,
    rfl, rfl, rfl, rfl, rfl, rfl, rfl, rfl, rfl, rfl, rfl, rfl, rfl, ?counters,
    openAs_windows (Answered s.dev tag) t x .text none (.text (TextTrack.opened bs)) bs,
    openAs_reports (Answered s.dev tag) .., clampWord_text_bit bs,
    fun u hu => Device.track_setTrack_of_ne (Answered s.dev tag) _ (Ne.symm hu),
    openAs_same (Answered s.dev tag) ..⟩
  case settings =>
    simp only [TextTrack.opened, descriptorText, clampColumns_eq]
    rfl
  case counters => exact textCounters_zero_words

/-- Settles O26: the opened DESCRIPTION track field by field, on the lowest-numbered lane that no track holds. -/
theorem descriptionDescriptorIsTaken : Obligations.DescriptionDescriptorIsTaken := by
  rintro s tag o t data x _ h hp hl rfl hs hx hk passed
  have taken := (descriptorAnswer_loading (d := Answered s.dev tag) hp hs hx data).1.trans
    (validate_passed (d := Answered s.dev tag) (descriptorKind_description.2 hk) passed t x)
  generalize dataBytes data = bs at taken hk passed ⊢
  obtain ⟨l, hlane⟩ := freeLane_of_passed hk passed
  have opened : (Answered s.dev tag).takeDescriptor t x .description bs =
      (Answered s.dev tag).openAs t x .description (some l) (.description (ClipTrack.opened bs l)) bs := by
    have same : (Answered s.dev tag).freeLane = some l := hlane
    simp only [Device.takeDescriptor, same]
  let e := (Answered s.dev tag).openAs t x .description (some l) (.description (ClipTrack.opened bs l)) bs
  refine ⟨e.settle, ClipTrack.opened bs l, clampWord .description bs (originAdjusted bs),
    (ran_descriptorAnswer h hl .ok).trans (by rw [taken, opened]), Device.track_setTrack_self (Answered s.dev tag) ..,
    laneHolder_eq_none_iff.1 (freeLane_spec hlane), fun k hk => freeLane_lowest hlane hk, ?settings, rfl, rfl, rfl, rfl, rfl,
    rfl, rfl, rfl, rfl, rfl, rfl, rfl, rfl, ?counters, ?flags,
    openAs_windows (Answered s.dev tag) t x .description (some l) (.description (ClipTrack.opened bs l)) bs,
    openAs_reports (Answered s.dev tag) .., clampWord_description_bit bs, fun u hu => Device.track_setTrack_of_ne (Answered s.dev tag) _ (Ne.symm hu),
    openAs_same (Answered s.dev tag) ..⟩
  case settings =>
    simp only [ClipTrack.opened, descriptorClips, clampFullTarget_eq, clampHoldLimit_eq, trimOf_eq]
    rfl
  case counters => exact clipCounters_zero_words
  case flags => exact clipCounters_zero_laneFlags

end
end

section

/-! PROOFS. Lists kept in order by insertion (R86, R122), and the closes of a close decision (spec 06 sections 6.2 and 6.3). -/

namespace Sys2Proof.Machine

open Sys2Proof Sys2Proof.Safety

/-! ## Lists kept in order by insertion -/

/-- An order in which ties are possible: nothing stands before itself in either direction, and what stands before `c` leaves
every `b` behind it or before `c`. -/
structure OrderedBy {α : Type} (before : α → α → Bool) : Prop where
  asymm : ∀ {a b}, before a b = true → before b a = false
  split : ∀ {a b c}, before a c = true → before a b = true ∨ before b c = true

theorem orderedBy_cueBefore : OrderedBy cueBefore where
  asymm := by
    intro a b
    simp only [cueBefore, Bool.or_eq_true, Bool.and_eq_true, decide_eq_true_eq, ← Bool.not_eq_true]
    omega
  split := by
    intro a b c
    simp only [cueBefore, Bool.or_eq_true, Bool.and_eq_true, decide_eq_true_eq]
    omega

theorem orderedBy_start : OrderedBy fun a b : Nat × ClipEntry => decide (a.2.start < b.2.start) where
  asymm := by
    intro a b
    simp only [decide_eq_true_eq, decide_eq_false_iff_not]
    omega
  split := by
    intro a b c
    simp only [decide_eq_true_eq]
    omega

section
variable {α : Type} {before : α → α → Bool}

/-- Nothing stands before an earlier entry. -/
def InOrder (before : α → α → Bool) (l : List α) : Prop :=
  l.Pairwise fun a b => before b a = false

theorem InOrder.insertBy (ho : OrderedBy before) (x : α) {l : List α} (h : InOrder before l) :
    InOrder before (insertBy before x l) := by
  induction l with
  | nil => exact List.pairwise_singleton _ x
  | cons y ys ih =>
    obtain ⟨hy, hys⟩ := List.pairwise_cons.1 h
    rw [Machine.insertBy]
    split
    next hxy =>
      refine List.pairwise_cons.2 ⟨fun z hz => ?_, h⟩
      rcases List.mem_cons.1 hz with rfl | hz
      · exact ho.asymm hxy
      · by_contra hzx
        rcases ho.split (b := z) hxy with hxz | hzy
        · exact hzx (ho.asymm hxz)
        · exact Bool.noConfusion (hzy.symm.trans (hy z hz))
    next hxy =>
      refine List.pairwise_cons.2 ⟨fun z hz => ?_, ih hys⟩
      rcases mem_insertBy.1 hz with rfl | hz
      · exact Bool.not_eq_true _ ▸ hxy
      · exact hy z hz

theorem InOrder.foldl_insertBy (ho : OrderedBy before) (l : List α) {a : List α} (h : InOrder before a) :
    InOrder before (l.foldl (fun b x => Machine.insertBy before x b) a) := by
  induction l generalizing a with
  | nil => exact h
  | cons x l ih => exact ih (h.insertBy ho x)

theorem perm_insertBy (x : α) (l : List α) : (insertBy before x l).Perm (x :: l) := by
  induction l with
  | nil => rfl
  | cons y ys ih =>
    rw [insertBy]
    split
    · rfl
    · exact (ih.cons y).trans (.swap x y ys)

theorem perm_foldl_insertBy (l a : List α) : (l.foldl (fun b x => insertBy before x b) a).Perm (l ++ a) := by
  induction l generalizing a with
  | nil => rfl
  | cons x l ih => exact (ih _).trans (((perm_insertBy x a).append_left l).trans List.perm_middle)

/-- What is left out of a list in order may as well be left out before the insertion. -/
theorem filter_insertBy (ho : OrderedBy before) (p : α → Bool) (x : α) {l : List α} (h : InOrder before l) :
    (insertBy before x l).filter p = if p x then insertBy before x (l.filter p) else l.filter p := by
  induction l with
  | nil => cases hx : p x <;> simp [insertBy, hx]
  | cons y ys ih =>
    obtain ⟨hy, hys⟩ := List.pairwise_cons.1 h
    rw [insertBy]
    split
    next hxy =>
      cases hx : p x with
      | false => simp [hx]
      | true =>
        have first : ∀ m : List α, (∀ z ∈ m, z ∈ y :: ys) → insertBy before x m = x :: m := by
          intro m hm
          rcases m with _ | ⟨z, m⟩
          · rfl
          · have hxz : before x z = true := by
              rcases List.mem_cons.1 (hm z (by simp)) with rfl | hz
              · exact hxy
              · exact (ho.split (b := z) hxy).resolve_right fun hzy => Bool.noConfusion (hzy.symm.trans (hy z hz))
            rw [insertBy, if_pos hxz]
        rw [List.filter_cons_of_pos hx, first _ fun z hz => List.mem_of_mem_filter hz]
        rfl
    next hxy =>
      cases hpy : p y with
      | false => rw [List.filter_cons_of_neg (by simp [hpy]), List.filter_cons_of_neg (by simp [hpy]), ih hys]
      | true =>
        rw [List.filter_cons_of_pos hpy, List.filter_cons_of_pos hpy, ih hys]
        cases hx : p x <;> simp [insertBy, hxy]

theorem filter_foldl_insertBy (ho : OrderedBy before) (p : α → Bool) (l : List α) {a : List α} (h : InOrder before a) :
    (l.foldl (fun b x => insertBy before x b) a).filter p =
      (l.filter p).foldl (fun b x => insertBy before x b) (a.filter p) := by
  induction l generalizing a with
  | nil => rfl
  | cons x l ih =>
    rw [List.foldl_cons, ih (h.insertBy ho x), filter_insertBy ho p x h]
    cases hx : p x <;> simp [hx]

end

/-! ## The active list (R86) -/

theorem pairwise_poolEntries {α : Type} (n : Nat) (l : List (Option α)) :
    (poolEntries n l).Pairwise fun a b => a.1 < b.1 := by
  induction l generalizing n with
  | nil => exact .nil
  | cons o l ih =>
    cases o with
    | none => exact ih (n + 1)
    | some x => exact List.pairwise_cons.2 ⟨fun q hq => (mem_poolEntries.1 hq).1, ih (n + 1)⟩

theorem nodup_poolEntries {α : Type} (n : Nat) (l : List (Option α)) : (poolEntries n l).Nodup :=
  (pairwise_poolEntries n l).imp fun h e => absurd (e ▸ h) (lt_irrefl _)

theorem poolEntries_map {α : Type} (f : α → α) (n : Nat) (l : List (Option α)) :
    poolEntries n (l.map (Option.map f)) = (poolEntries n l).map fun q => (q.1, f q.2) := by
  induction l generalizing n with
  | nil => rfl
  | cons o l ih => cases o <;> simp [poolEntries, ih]

theorem activeCues_nodup (d : Device) (t : Slot) : (d.activeCues t).Nodup := by
  refine (perm_foldl_insertBy _ []).nodup_iff.2 ?_
  rw [List.append_nil]
  exact ((nodup_poolEntries 0 _).filter _).filter _

theorem activeCues_inOrder (d : Device) (t : Slot) : InOrder cueBefore (d.activeCues t) :=
  InOrder.foldl_insertBy orderedBy_cueBefore _ .nil

theorem cueBefore_eq_false_iff {a b : Nat × CueEntry} :
    cueBefore b a = false ↔ a.2.start < b.2.start ∨ a.2.start = b.2.start ∧ a.2.arrival ≤ b.2.arrival := by
  simp only [cueBefore, Bool.or_eq_false_iff, Bool.and_eq_false_iff, decide_eq_false_iff_not]
  omega

/-! ## One close (R98) -/

/-- The cue as a close of segment k that ends at `b` leaves it (R101). -/
def CueEntry.afterClose (t : Slot) (k b : Nat) (c : CueEntry) : CueEntry :=
  if c.endsBy t b then { c with status := .retired k } else c

theorem CueEntry.endsBy_iff {c : CueEntry} {t : Slot} {b : Nat} :
    c.endsBy t b = true ↔ c.track = t ∧ c.status = .active ∧ c.stop ≤ b := by
  simp [CueEntry.endsBy, and_assoc]

theorem CueEntry.afterClose_track (t : Slot) (k b : Nat) (c : CueEntry) : (c.afterClose t k b).track = c.track := by
  unfold CueEntry.afterClose
  split <;> rfl

/-- A cue that is still ACTIVE after a close of its track is unchanged, and does not end by the boundary (R101). -/
theorem CueEntry.afterClose_active {t : Slot} {k b : Nat} {c : CueEntry} (h : c.track = t) :
    (c.afterClose t k b).status = .active ↔ c.status = .active ∧ b < c.stop := by
  unfold CueEntry.afterClose
  split
  next he =>
    obtain ⟨-, -, hs⟩ := CueEntry.endsBy_iff.1 he
    simp [hs]
  next he =>
    refine ⟨fun ha => ⟨ha, ?_⟩, And.left⟩
    by_contra hs
    exact he (CueEntry.endsBy_iff.2 ⟨h, ha, not_lt.1 hs⟩)

theorem retireCues_toList (t : Slot) (k b : Nat) (pool : Vector (Option CueEntry) 256) :
    (retireCues t k b pool).toList = pool.toList.map (Option.map (CueEntry.afterClose t k b)) := by
  rw [retireCues, Vector.toList_map]
  refine List.map_congr_left fun o _ => ?_
  cases o with
  | none => rfl
  | some c => exact (apply_ite some _ _ _).symm

theorem trackCues_closeSegment (d : Device) (t : Slot) (x : TextTrack) :
    (d.closeSegment t x).trackCues t = (d.trackCues t).map fun q => (q.1, q.2.afterClose t x.next x.openEnd) := by
  show (poolEntries 0 (retireCues t x.next x.openEnd d.cuePool).toList).filter _ = _
  rw [retireCues_toList, poolEntries_map, List.filter_map]
  refine congrArg (List.map _) (List.filter_congr fun q _ => ?_)
  simp [CueEntry.afterClose_track]

/-- The cues that a close leaves ACTIVE are those that end past its boundary, in their order (R101, R86). -/
theorem activeCues_closeSegment (d : Device) (t : Slot) (x : TextTrack) :
    (d.closeSegment t x).activeCues t = (d.activeCues t).filter fun q => decide (x.openEnd < q.2.stop) := by
  rw [Device.activeCues, Device.activeCues, filter_foldl_insertBy orderedBy_cueBefore _ _ .nil, trackCues_closeSegment,
    List.filter_map, List.filter_nil, List.filter_filter]
  refine congrArg (fun l => List.foldl (fun l x => insertBy cueBefore x l) [] l) ?_
  have same : ∀ q ∈ d.trackCues t, ((q.2.afterClose t x.next x.openEnd).status == .active) =
      (decide (x.openEnd < q.2.stop) && (q.2.status == .active)) := fun q hq => by
    obtain ⟨-, own⟩ := Device.mem_trackCues.1 hq
    rw [Bool.eq_iff_iff]
    simpa [and_comm] using CueEntry.afterClose_active own
  rw [List.filter_congr (q := fun q => decide (x.openEnd < q.2.stop) && (q.2.status == .active)) same]
  refine (List.map_congr_left fun q hq => ?_).trans (List.map_id _)
  obtain ⟨-, hq⟩ := List.mem_filter.1 hq
  have past : q.2.endsBy t x.openEnd = false := by
    simp only [Bool.and_eq_true, decide_eq_true_eq] at hq
    rw [← Bool.not_eq_true, CueEntry.endsBy_iff]
    omega
  simp [CueEntry.afterClose, past]

/-! ## A track after closes -/

theorem openedAfter_one (x : TextTrack) : (openedAfter x 1).openStart = x.openEnd := by
  simp [openedAfter, TextTrack.openEnd]

theorem openEnd_le_openedAfter (x : TextTrack) (j : Nat) : x.openEnd ≤ (openedAfter x (j + 1)).openStart := by
  simp only [openedAfter, Nat.add_one_ne_zero, if_false, TextTrack.openEnd]
  omega

theorem openedAfter_openEnd (x : TextTrack) (j : Nat) : (openedAfter x j).openEnd = (openedAfter x (j + 1)).openStart := by
  rw [openedAfter_succ x j (assemble 0 .free x [])]
  rfl

theorem le_openedAfter (x : TextTrack) (j : Nat) : x.openStart ≤ (openedAfter x j).openStart := by
  cases j with
  | zero => exact le_rfl
  | succ j => exact (Nat.le_add_right _ _).trans (openEnd_le_openedAfter x j)

/-- The closes of a track touch none of its other fields (R98). -/
theorem openedAfter_same (x : TextTrack) (n : Nat) :
    (openedAfter x n).settings = x.settings ∧ (openedAfter x n).consume = x.consume ∧
      (openedAfter x n).flushFrame = x.flushFrame ∧ (openedAfter x n).drainEnd = x.drainEnd ∧
      (openedAfter x n).counters = x.counters := by
  unfold openedAfter
  split <;> simp

/-- The closes after a first one are the closes of the track that the first one leaves (R50, R98). -/
theorem openedAfter_closed (x : TextTrack) (r : SegmentRecord) (j : Nat) :
    openedAfter (x.closed r) j =
      { openedAfter x (j + 1) with
        slots := (x.closed r).slots
        records := (x.closed r).records
        flight := (x.closed r).flight
        waitingClose := (x.closed r).waitingClose } := by
  rcases j with _ | j
  · simp [openedAfter, TextTrack.closed, TextTrack.openEnd]
  · simp only [openedAfter, TextTrack.closed, TextTrack.openEnd, Nat.add_one_ne_zero, if_false, Option.getD_none,
      Nat.add_sub_cancel]
    simp only [TextTrack.mk.injEq, true_and, and_true]
    constructor
    · omega
    · rw [Nat.succ_mul]
      omega

theorem due_openedAfter_closed (x : TextTrack) (r : SegmentRecord) (j : Nat) (st : TrackState) :
    (openedAfter (x.closed r) j).due st = (openedAfter x (j + 1)).due st := by
  rw [openedAfter_closed]
  cases st <;> rfl

/-- A cue that ends by a segment's start does not intersect it (R66). -/
theorem fragmentOf_eq_none {code b0 b1 : Nat} {c : CueEntry} (h : c.stop ≤ b0) : fragmentOf code b0 b1 c = none :=
  if_neg (by omega)

theorem filterMap_filter_of_none {α β : Type} {f : α → Option β} {p : α → Bool} (h : ∀ a, p a = false → f a = none)
    (l : List α) : (l.filter p).filterMap f = l.filterMap f := by
  induction l with
  | nil => rfl
  | cons a l ih =>
    cases hp : p a with
    | false => rw [List.filter_cons_of_neg (by simp [hp]), List.filterMap_cons_none (h a hp), ih]
    | true =>
      rw [List.filter_cons_of_pos hp, List.filterMap_cons, List.filterMap_cons]
      cases f a <;> simp [ih]

/-- Cues that end by the start of the segment make no difference to its record (R99). -/
theorem assemble_filter (t : Slot) (st : TrackState) (x : TextTrack) (active : List (Nat × CueEntry)) {b : Nat}
    (h : b ≤ x.openStart) :
    assemble t st x ((active.filter fun q => decide (b < q.2.stop)).map Prod.snd) = assemble t st x (active.map Prod.snd) := by
  have same : ((active.filter fun q => decide (b < q.2.stop)).map Prod.snd).filterMap
      (fragmentOf x.settings.rate.code x.openStart x.openEnd) =
        (active.map Prod.snd).filterMap (fragmentOf x.settings.rate.code x.openStart x.openEnd) := by
    rw [List.filterMap_map, List.filterMap_map]
    refine filterMap_filter_of_none (fun q hq => fragmentOf_eq_none ?_) active
    rw [decide_eq_false_iff_not, not_lt] at hq
    exact hq.trans h
  simp only [assemble, same]

theorem assemble_openedAfter_closed (t : Slot) (st : TrackState) (x : TextTrack) (r : SegmentRecord) (j : Nat)
    (active : List (Nat × CueEntry)) :
    assemble t st (openedAfter (x.closed r) j) ((active.filter fun q => decide (x.openEnd < q.2.stop)).map Prod.snd) =
      assemble t st (openedAfter x (j + 1)) (active.map Prod.snd) := by
  rw [openedAfter_closed]
  exact assemble_filter t st (openedAfter x (j + 1)) active (openEnd_le_openedAfter x j)

/-! ## The closes of a decision (R96) -/

/-- What a close decision for track `t` makes of a device: `n` closes that carry the track from `x` to `z`, a stall where a RUNNING
track finds no EMPTY slot, and nothing else (R96, R97, R51). -/
structure ClosesTo (d : Device) (t : Slot) (x : TextTrack) (n : Nat) (z : TextTrack) (e : Device) : Prop where
  made : ClosesMade t (d.track t).state (d.activeCues t) x n z d.cue e.cue
  device : e = { d.setTrack t { d.track t with state := (e.track t).state, body := .text z } with
    cuePool := e.cuePool
    reports := e.reports }
  stalls : z.due (d.track t).state = true → (d.track t).state = .running → (e.track t).state = .stalled ∧
    e.reports = d.reports.posted (.trackStalled t z.next z.tuning.stall z.writtenSlots)
  stays : z.due (d.track t).state = false ∨ (d.track t).state ≠ .running →
    (e.track t).state = (d.track t).state ∧ e.reports = d.reports

/-- A decision that makes no close carries the track to `z`, of which only the wait and the counters differ. -/
theorem closesMade_zero {t : Slot} {st : TrackState} {active : List (Nat × CueEntry)} {x z : TextTrack}
    {cue : Nat → Option CueEntry}
    (same : z = { x with waitingClose := z.waitingClose, counters := z.counters })
    (ends : z.due st = false ∧ z.waitingClose = x.waitingClose ∧ z.counters = x.counters ∨
      z.due st = true ∧ z.slotOf z.next ≠ some .empty ∧ z.waitingClose = true ∧
        z.counters =
          if st = .running then { x.counters with stalls := min 65535 (x.counters.stalls + 1) } else x.counters) :
    ClosesMade t st active x 0 z cue cue := by
  have slots : z.slots = x.slots := by rw [same]
  refine ⟨fun j hj => absurd hj j.not_lt_zero, Nat.zero_le _, congrArg List.length slots,
    fun j hj => absurd hj j.not_lt_zero, fun i _ => by rw [slots], ?_, ?_, fun i => ⟨id, fun c hc => ⟨fun j hj => ?_, fun _ => hc⟩⟩⟩
  · rw [same]
    simp
  · simpa [TextTrack.slotOf, TextTrack.capacity] using ends
  · exact absurd hj j.not_lt_zero

theorem Device.setTrack_track (d : Device) (t : Slot) : d.setTrack t (d.track t) = d := by
  rw [Device.setTrack, Device.track_def, Vector.set_getElem_self]

theorem closesTo_of_not_due {d : Device} {t : Slot} {x : TextTrack} (hb : (d.track t).body = .text x)
    (hd : x.due (d.track t).state = false) : ClosesTo d t x 0 x d where
  made := closesMade_zero rfl (.inl ⟨hd, rfl, rfl⟩)
  device := by
    rw [← hb]
    exact (d.setTrack_track t).symm
  stalls := fun h => Bool.noConfusion (hd.symm.trans h)
  stays := fun _ => ⟨rfl, rfl⟩

/-- The track whose close waits for an EMPTY slot (R97, R51). -/
def blocked (x : TextTrack) (st : TrackState) : TextTrack :=
  { x with
    waitingClose := true
    counters := if st = .running then { x.counters with stalls := min 65535 (x.counters.stalls + 1) } else x.counters }

theorem blocked_due (x : TextTrack) (st u : TrackState) : (blocked x st).due u = x.due u := by
  cases u <;> rfl

theorem blockClose_running {d : Device} {t : Slot} (h : (d.track t).state = .running) (x : TextTrack) :
    d.blockClose t x = (d.setTrack t { d.track t with state := .stalled, body := .text (blocked x .running) }).post
      (.trackStalled t x.next x.tuning.stall x.writtenSlots) := by
  exact (if_pos h).trans (congrArg (fun e : Device => e.post (.trackStalled t x.next x.tuning.stall x.writtenSlots))
    (setTrackState_setText d t (blocked x .running) .stalled))

theorem blockClose_waits {d : Device} {t : Slot} (h : (d.track t).state ≠ .running) (x : TextTrack) :
    d.blockClose t x = d.setText t (blocked x (d.track t).state) := by
  simp [Device.blockClose, blocked, h]

theorem closesTo_of_blocked {d : Device} {t : Slot} {x : TextTrack}
    (hd : x.due (d.track t).state = true) (hs : x.slotOf x.next ≠ some .empty) :
    ClosesTo d t x 0 (blocked x (d.track t).state) (d.blockClose t x) := by
  have due : (blocked x (d.track t).state).due (d.track t).state = true := (blocked_due ..).trans hd
  have cue : (d.blockClose t x).cue = d.cue := by
    unfold Device.blockClose
    split <;> rfl
  refine ⟨cue ▸ closesMade_zero rfl (.inr ⟨due, hs, rfl, rfl⟩), ?_, fun _ hr => ?_, fun h => ?_⟩
  · by_cases hr : (d.track t).state = .running
    · rw [blockClose_running hr, hr]
      simp [Device.post, Device.track_def]
    · rw [blockClose_waits hr]
      rw [Device.setText, Device.track_setTrack_self]
  · rw [blockClose_running hr, hr]
    exact ⟨congrArg TrackContext.state (Device.track_setTrack_self ..), rfl⟩
  · have hr : (d.track t).state ≠ .running := h.resolve_left fun hf => Bool.noConfusion (hf.symm.trans due)
    rw [blockClose_waits hr, Device.track_setText_self]
    exact ⟨rfl, rfl⟩

theorem closeSegment_track (d : Device) (t : Slot) (x : TextTrack) :
    (d.closeSegment t x).track t =
      { d.track t with body := .text (x.closed (assemble t (d.track t).state x ((d.activeCues t).map Prod.snd))) } :=
  d.track_setText_self t _

/-- A close made before the others of a decision: the cues (R101). -/
theorem retired_afterClose {t : Slot} {x : TextTrack} {r : SegmentRecord} {n : Nat} {old mid new : Nat → Option CueEntry}
    (hmid : ∀ i, mid i = (old i).map (CueEntry.afterClose t x.next x.openEnd))
    (h : ∀ i, (mid i = none → new i = none) ∧ ∀ c, mid i = some c →
      (∀ j < n, c.track = t → c.status = .active → c.stop ≤ (openedAfter (x.closed r) (j + 1)).openStart →
        (j = 0 ∨ (openedAfter (x.closed r) j).openStart < c.stop) →
          new i = some { c with status := .retired ((x.closed r).next + j) }) ∧
      ((c.track ≠ t ∨ c.status ≠ .active ∨ ∀ j < n, (openedAfter (x.closed r) (j + 1)).openStart < c.stop) →
        new i = some c)) (i : Nat) :
    (old i = none → new i = none) ∧ ∀ c, old i = some c →
      (∀ j < n + 1, c.track = t → c.status = .active → c.stop ≤ (openedAfter x (j + 1)).openStart →
        (j = 0 ∨ (openedAfter x j).openStart < c.stop) → new i = some { c with status := .retired (x.next + j) }) ∧
      ((c.track ≠ t ∨ c.status ≠ .active ∨ ∀ j < n + 1, (openedAfter x (j + 1)).openStart < c.stop) → new i = some c) := by
  simp only [openedAfter_closed] at h
  obtain ⟨absent, present⟩ := h i
  refine ⟨fun ho => absent (by rw [hmid, ho]; rfl), fun c ho => ⟨fun j hj own act stop first => ?_, fun kept => ?_⟩⟩
  · rcases j with _ | j
    · have ends : c.endsBy t x.openEnd = true := CueEntry.endsBy_iff.2 ⟨own, act, openedAfter_one x ▸ stop⟩
      exact (present { c with status := .retired x.next } (by rw [hmid, ho]; simp [CueEntry.afterClose, ends])).2
        (.inr (.inl nofun))
    · have past : (openedAfter x (j + 1)).openStart < c.stop := first.resolve_left (Nat.succ_ne_zero j)
      have stays : ¬c.endsBy t x.openEnd = true := fun he =>
        absurd (CueEntry.endsBy_iff.1 he).2.2 (not_le.2 ((openEnd_le_openedAfter x j).trans_lt past))
      have done := (present c (by rw [hmid, ho]; simp [CueEntry.afterClose, stays])).1 j (Nat.lt_of_succ_lt_succ hj) own act
        stop (.inr past)
      rw [done, show (x.closed r).next + j = x.next + (j + 1) by simp only [TextTrack.closed]; omega]
  · have stays : ¬c.endsBy t x.openEnd = true := fun he => by
      obtain ⟨own, act, stop⟩ := CueEntry.endsBy_iff.1 he
      rcases kept with hk | hk | hk
      · exact hk own
      · exact hk act
      · exact absurd stop (not_le.2 (openedAfter_one x ▸ hk 0 n.succ_pos))
    refine (present c (by rw [hmid, ho]; simp [CueEntry.afterClose, stays])).2 ?_
    exact kept.imp_right (Or.imp_right fun hk j hj => hk (j + 1) (Nat.succ_lt_succ hj))

/-- One more close before those of a decision (R98). -/
theorem closesMade_succ {t : Slot} {st : TrackState} {active : List (Nat × CueEntry)} {x z : TextTrack} {r : SegmentRecord}
    {n : Nat} {old mid new : Nat → Option CueEntry} (hr : r = assemble t st x (active.map Prod.snd))
    (hd : x.due st = true) (hs : x.slotOf x.next = some .empty)
    (hmid : ∀ i, mid i = (old i).map (CueEntry.afterClose t x.next x.openEnd))
    (hn : n + 1 ≤ x.slots.length)
    (h : ClosesMade t st (active.filter fun q => decide (x.openEnd < q.2.stop)) (x.closed r) n z mid new) :
    ClosesMade t st active x (n + 1) z old new := by
  obtain ⟨rest, -, length, writing, others, same, ends, cues⟩ := h
  have size : (x.closed r).slots.length = x.slots.length := List.length_set
  have later : ∀ j, ((x.closed r).next + j) % (x.closed r).slots.length = (x.next + (j + 1)) % x.slots.length := fun j => by
    rw [size]
    exact congrArg (· % _) (by simp only [TextTrack.closed]; omega)
  have slot : ∀ i, (x.closed r).slots[i]? = if x.next % x.slots.length = i then some .writing else x.slots[i]? := fun i => by
    show (x.slots.set (x.next % x.slots.length) .writing)[i]? = _
    rw [List.getElem?_set]
    split
    next hi =>
      subst hi
      rw [if_pos (Nat.mod_lt _ (by omega))]
    next => rfl
  refine ⟨fun j hj => ?_, hn, length.trans size, fun j hj => ?_, fun i hi => ?_, ?_, ?_, retired_afterClose hmid cues⟩
  · rcases j with _ | j
    · exact ⟨hd, hs⟩
    · obtain ⟨due, empty⟩ := rest j (Nat.lt_of_succ_lt_succ hj)
      rw [due_openedAfter_closed] at due
      rw [later, slot] at empty
      refine ⟨due, ?_⟩
      split at empty
      · cases empty
      · exact empty
  · rcases j with _ | j
    · by_cases hit : ∃ k < n, (x.next + (k + 1)) % x.slots.length = (x.next + 0) % x.slots.length
      · obtain ⟨k, hk, he⟩ := hit
        rw [← he, ← later]
        exact writing k hk
      · rw [others _ fun k hk he => hit ⟨k, hk, (later k).symm.trans he⟩, slot]
        exact if_pos rfl
    · rw [← later]
      exact writing j (Nat.lt_of_succ_lt_succ hj)
  · rw [others i fun j hj he => hi (j + 1) (Nat.succ_lt_succ hj) ((later j).symm.trans he), slot]
    exact if_neg (hi 0 n.succ_pos)
  · refine same.trans ?_
    have records : (List.range n).map (fun j => assemble t st (openedAfter (x.closed r) j)
        ((active.filter fun q => decide (x.openEnd < q.2.stop)).map Prod.snd)) =
          (List.range n).map fun j => assemble t st (openedAfter x (j + 1)) (active.map Prod.snd) :=
      List.map_congr_left fun j _ => assemble_openedAfter_closed t st x r j active
    rw [records, openedAfter_closed, List.range_succ_eq_map, List.map_cons, List.map_map]
    have flight : (x.closed r).flight = some (x.flight.getD ⟨0, 0, []⟩) := by
      unfold TextTrack.closed
      cases x.flight <;> rfl
    have joined : (x.closed r).records = x.records ++ [assemble t st x (active.map Prod.snd)] := hr ▸ rfl
    simp only [flight, joined, List.append_assoc, List.cons_append, List.nil_append, Nat.add_one_ne_zero, if_false,
      Option.getD_some, ite_self]
    rfl
  · refine ends.imp (And.imp_right (And.imp_left fun hw => hw.trans ?_)) id
    simp [TextTrack.closed]

theorem count_closed {x : TextTrack} {r : SegmentRecord} (hs : x.slotOf x.next = some .empty) :
    (x.closed r).slots.count .empty + 1 = x.slots.count .empty := by
  obtain ⟨hlt, he⟩ := List.getElem?_eq_some_iff.1 hs
  have pos : 0 < x.slots.count .empty := List.count_pos_iff.2 (he ▸ List.getElem_mem hlt)
  show (x.slots.set (x.next % x.capacity) .writing).count .empty + 1 = _
  rw [List.count_set hlt, he]
  simp
  omega

/-- A close before the others of a decision (R96, R98). -/
theorem ClosesTo.cons {d e : Device} {t : Slot} {x z : TextTrack} {n : Nat}
    (hd : x.due (d.track t).state = true) (hs : x.slotOf x.next = some .empty) (hn : n + 1 ≤ x.slots.length)
    (h : ClosesTo (d.closeSegment t x) t
      (x.closed (assemble t (d.track t).state x ((d.activeCues t).map Prod.snd))) n z e) :
    ClosesTo d t x (n + 1) z e := by
  have state : ((d.closeSegment t x).track t).state = (d.track t).state := by rw [closeSegment_track]
  obtain ⟨made, device, stalls, stays⟩ := h
  rw [state] at made stalls stays
  rw [activeCues_closeSegment] at made
  refine ⟨closesMade_succ rfl hd hs (d.cue_closeSegment t x) hn made, device.trans ?_, stalls, stays⟩
  rw [closeSegment_track]
  simp [Device.closeSegment, Device.setText, Device.setTrack]

/-- The EMPTY slots bound the closes of a decision: with a round for each and one more, it comes to its end (R96). -/
theorem makeCloses_closesTo (fuel : Nat) {d : Device} {t : Slot} {x : TextTrack} (hb : (d.track t).body = .text x)
    (hf : x.slots.count .empty < fuel) :
    ∃ n z, n ≤ x.slots.count .empty ∧ ClosesTo d t x n z (Device.makeCloses fuel d t) := by
  induction fuel generalizing d x with
  | zero => exact absurd hf (Nat.not_lt_zero _)
  | succ fuel ih =>
    have hx : (d.track t).text = some x := TrackContext.text_eq_some.2 hb
    simp only [Device.makeCloses, hx]
    cases hd : x.due (d.track t).state with
    | false => exact ⟨0, x, Nat.zero_le _, closesTo_of_not_due hb hd⟩
    | true =>
      by_cases hs : x.slotOf x.next = some .empty
      · simp only [if_true, hs]
        have fewer := count_closed (r := assemble t (d.track t).state x ((d.activeCues t).map Prod.snd)) hs
        obtain ⟨n, z, hn, h⟩ := ih (d := d.closeSegment t x) (congrArg TrackContext.body (closeSegment_track d t x)) (by omega)
        have room : x.slots.count .empty ≤ x.slots.length := List.count_le_length
        exact ⟨n + 1, z, by omega, h.cons hd hs (by omega)⟩
      · simp only [if_true, hs, if_false]
        exact ⟨0, _, Nat.zero_le _, closesTo_of_blocked hd hs⟩

theorem damagedActive_eq_none {d : Device} {t : Slot}
    (h : ∀ q ∈ d.trackCues t, q.2.status = .active → q.2.parityOk = true) : d.damagedActive t = none := by
  rw [Device.damagedActive, Option.map_eq_none_iff, List.find?_eq_none]
  intro q hq
  by_cases ha : q.2.status = .active
  · simp [h q hq ha]
  · simp [ha]

/-- A close decision that reads no damaged cue makes every close that is due, as far as there are EMPTY slots (R96). -/
theorem decideClose_closesTo {d : Device} {t : Slot} {x : TextTrack} (hb : (d.track t).body = .text x)
    (h : ∀ q ∈ d.trackCues t, q.2.status = .active → q.2.parityOk = true) (before : Device) :
    ∃ n z, ClosesTo d t x n z (d.decideClose t before) := by
  obtain ⟨n, z, -, made⟩ := makeCloses_closesTo (x.capacity + 1) hb (Nat.lt_succ_of_le List.count_le_length)
  rcases Device.decideClose_cases (TrackContext.text_eq_some.2 hb) before with ⟨i, -, damaged, -⟩ | he
  · rw [damagedActive_eq_none h] at damaged
    cases damaged
  · exact ⟨n, z, he ▸ made⟩

end Sys2Proof.Machine
end

section

/-! PROOFS. The directives that end in a close decision (spec 03): CLOSE TRACK of a TEXT track, FLUSH TRACK and RESUME TRACK. -/

namespace Sys2Proof.Machine

open Sys2Proof Sys2Proof.Safety

/-! ## What a close decision leaves alone, and how it ends -/

theorem ClosesTo.track {d e : Device} {t : Slot} {x z : TextTrack} {n : Nat} (h : ClosesTo d t x n z e) :
    e.track t = { d.track t with state := (e.track t).state, body := .text z } :=
  (congrArg (fun f : Device => f.track t) h.device).trans (Device.track_setTrack_self d t _)

theorem ClosesTo.otherTracks {d e : Device} {t : Slot} {x z : TextTrack} {n : Nat} (h : ClosesTo d t x n z e) {u : Slot}
    (hu : u ≠ t) : e.track u = d.track u :=
  (congrArg (fun f : Device => f.track u) h.device).trans (Device.track_setTrack_of_ne d _ hu.symm)

theorem ClosesTo.same {d e : Device} {t : Slot} {x z : TextTrack} {n : Nat} (h : ClosesTo d t x n z e) :
    e.clipPool = d.clipPool ∧ e.windows = d.windows ∧ e.writeQueue = d.writeQueue ∧ e.readList = d.readList ∧
      e.outstanding = d.outstanding ∧ e.engine = d.engine ∧ e.monitor = d.monitor := by
  rw [h.device]
  exact ⟨rfl, rfl, rfl, rfl, rfl, rfl, rfl⟩

section
variable {t : Slot} {st : TrackState} {active : List (Nat × CueEntry)} {x z : TextTrack} {n : Nat}
  {old new : Nat → Option CueEntry}

/-- Closes change the segments of a track, not its settings, its bounds or its consume point (R98). -/
theorem closesMade_same (h : ClosesMade t st active x n z old new) :
    z.settings = x.settings ∧ z.consume = x.consume ∧ z.flushFrame = x.flushFrame ∧ z.drainEnd = x.drainEnd := by
  obtain ⟨-, -, -, -, -, same, -, -⟩ := h
  obtain ⟨settings, consume, flushFrame, drainEnd, -⟩ := openedAfter_same x n
  rw [same]
  exact ⟨settings, consume, flushFrame, drainEnd⟩

theorem closesMade_next (h : ClosesMade t st active x n z old new) :
    z.next = x.next + n ∧ z.openStart = (openedAfter x n).openStart := by
  obtain ⟨-, -, -, -, -, same, -, -⟩ := h
  rw [same]
  exact ⟨openedAfter_next x n, rfl⟩

/-- The decision ends at a segment that is not due, or at one that waits for an EMPTY slot (R96, R97). -/
theorem closesMade_ends (h : ClosesMade t st active x n z old new) :
    z.due st = false ∨ z.due st = true ∧ z.slotOf z.next ≠ some .empty ∧ z.waitingClose = true := by
  obtain ⟨-, -, -, -, -, -, ends, -⟩ := h
  exact ends.imp And.left fun ⟨due, full, waits, _⟩ => ⟨due, full, waits⟩

/-- Outside RUNNING a decision counts nothing (R97). -/
theorem closesMade_counters (h : ClosesMade t st active x n z old new) (hs : st ≠ .running) : z.counters = x.counters := by
  obtain ⟨-, -, -, -, -, -, ends, -⟩ := h
  rcases ends with ⟨-, -, counters⟩ | ⟨-, -, -, counters⟩
  · exact counters
  · rw [counters, if_neg hs]

/-- A due segment whose slot is EMPTY is closed, and its record is the first that the decision assembles (R96, R98). -/
theorem closesMade_first (h : ClosesMade t st active x n z old new) (hd : x.due st = true)
    (hs : x.slotOf x.next = some .empty) :
    ∃ k, n = k + 1 ∧ z.records = x.records ++ assemble t st x (active.map Prod.snd) ::
      (List.range k).map fun j => assemble t st (openedAfter x (j + 1)) (active.map Prod.snd) := by
  obtain ⟨-, -, -, -, others, same, ends, -⟩ := h
  rcases n with _ | k
  · have due : z.due st = x.due st := by
      rw [same]
      cases st <;> rfl
    have slots : z.slots = x.slots := List.ext_getElem? fun i => others i nofun
    have next : z.next = x.next := by rw [same]; rfl
    rcases ends with ⟨done, -, -⟩ | ⟨-, full, -, -⟩
    · exact Bool.noConfusion ((due.symm.trans done).symm.trans hd)
    · rw [slots, next] at full
      exact absurd hs full
  · refine ⟨k, rfl, ?_⟩
    rw [same, List.range_succ_eq_map, List.map_cons, List.map_map]
    rfl

end

/-! ## When a segment is due (R67, R95) -/

theorem atLeast_iff {b : Nat} {o : Option Nat} : atLeast b o = true ↔ ∃ h, o = some h ∧ b ≤ h := by
  cases o <;> simp [atLeast]

theorem due_running_iff (x : TextTrack) : x.due .running = true ↔
    (∃ h, x.horizon = some h ∧ x.openStart + x.openLength + x.tuning.reorder ≤ h) ∨
      ∃ f, x.flushFrame = some f ∧ x.openStart + x.openLength ≤ f := by
  rw [TextTrack.due, Bool.or_eq_true, atLeast_iff, atLeast_iff]
  rfl

theorem due_draining_iff (x : TextTrack) : x.due .draining = true ↔ ∃ stop, x.drainEnd = some stop ∧ x.openStart < stop := by
  rw [TextTrack.due, TextTrack.beforeDrainEnd]
  cases x.drainEnd <;> simp

theorem lastOfDrain_iff (x : TextTrack) (st : TrackState) :
    x.lastOfDrain st = true ↔ st = .draining ∧ ∃ stop, x.drainEnd = some stop ∧ stop ≤ x.openEnd := by
  rw [TextTrack.lastOfDrain]
  cases x.drainEnd <;> simp

/-! ## The drain end (R45) -/

theorem latestEnd_foldl (l : List (Nat × CueEntry)) (m : Nat) :
    let v := l.foldl (fun m c => max m c.2.stop) m
    m ≤ v ∧ (∀ q ∈ l, q.2.stop ≤ v) ∧ (v = m ∨ ∃ q ∈ l, q.2.stop = v) := by
  induction l generalizing m with
  | nil => exact ⟨le_rfl, nofun, .inl rfl⟩
  | cons q l ih =>
    obtain ⟨above, bound, attained⟩ := ih (max m q.2.stop)
    refine ⟨(le_max_left _ _).trans above, fun p hp => ?_, ?_⟩
    · rcases List.mem_cons.1 hp with rfl | hp
      · exact (le_max_right _ _).trans above
      · exact bound p hp
    · rcases attained with h | ⟨p, hp, h⟩
      · rcases le_total q.2.stop m with hm | hm
        · exact .inl (h.trans (max_eq_left hm))
        · exact .inr ⟨q, List.mem_cons_self, (max_eq_right hm).symm.trans h.symm⟩
      · exact .inr ⟨p, List.mem_cons_of_mem _ hp, h⟩

/-- The drain end is past the start of the open segment and not before any ACTIVE cue's end, and no later than that asks for
(R45). -/
theorem drainEndOf_spec (d : Device) (t : Slot) (y : TextTrack) :
    y.openStart < d.drainEndOf t y ∧ (∀ q ∈ d.trackCues t, q.2.status = .active → q.2.stop ≤ d.drainEndOf t y) ∧
      (d.drainEndOf t y = y.openStart + 1 ∨ ∃ q ∈ d.trackCues t, q.2.status = .active ∧ q.2.stop = d.drainEndOf t y) := by
  obtain ⟨-, bound, attained⟩ := latestEnd_foldl (d.activeCues t) 0
  have active : ∀ q : Nat × CueEntry, q ∈ d.activeCues t ↔ q ∈ d.trackCues t ∧ q.2.status = .active := fun q => by
    rw [Device.mem_activeCues, Device.mem_trackCues, and_assoc]
  unfold Device.drainEndOf latestEnd
  split
  next early =>
    refine ⟨Nat.lt_succ_self _, fun q hq ha => ?_, .inl rfl⟩
    exact (bound q ((active q).2 ⟨hq, ha⟩)).trans (early.trans (Nat.le_succ _))
  next late =>
    refine ⟨not_le.1 late, fun q hq ha => bound q ((active q).2 ⟨hq, ha⟩), .inr ?_⟩
    rcases attained with h | ⟨q, hq, h⟩
    · exact absurd (h.trans_le (Nat.zero_le _)) late
    · obtain ⟨hq, ha⟩ := (active q).1 hq
      exact ⟨q, hq, ha, h⟩

/-- The last close of a drain that has reached its drain end is FINAL (R110). -/
theorem closesMade_final {t : Slot} {active : List (Nat × CueEntry)} {x z : TextTrack} {n stop : Nat}
    {old new : Nat → Option CueEntry} (h : ClosesMade t .draining active x n z old new) (hd : x.drainEnd = some stop)
    (hs : x.openStart < stop) (hz : stop ≤ z.openStart) : ∃ r, z.records.getLast? = some r ∧ r.final = true := by
  have reached := hz.trans_eq (closesMade_next h).2
  obtain ⟨-, -, -, -, -, same, -, -⟩ := h
  rcases n with _ | k
  · exact absurd reached (not_le.2 hs)
  · refine ⟨assemble t .draining (openedAfter x k) (active.map Prod.snd), ?_, ?_⟩
    · rw [same, List.range_succ, List.map_append, ← List.append_assoc]
      exact List.getLast?_concat
    · obtain ⟨-, -, -, drainEnd, -⟩ := openedAfter_same x k
      exact (lastOfDrain_iff _ _).2 ⟨rfl, stop, drainEnd.trans hd, reached.trans_eq (openedAfter_openEnd x k).symm⟩

/-! ## CLOSE TRACK, FLUSH TRACK and RESUME TRACK -/

theorem drainText_eq {d : Device} {t : Slot} (h : ∀ q ∈ d.trackCues t, q.2.status = .active → q.2.parityOk = true)
    (y : TextTrack) :
    d.drainText t y = (d.setTrack t { d.track t with
      state := .draining, body := .text { y with drainEnd := some (d.drainEndOf t y) } }).decideClose t d := by
  rw [Device.drainText, damagedActive_eq_none h]
  exact congrArg (fun e : Device => e.decideClose t d)
    (setTrackState_setText d t { y with drainEnd := some (d.drainEndOf t y) } .draining)

theorem raiseTo_eq (f : Nat) (o : Option Nat) : raiseTo f o = some (max f (o.getD 0)) := by
  cases o with
  | none => exact congrArg some (Nat.max_zero f).symm
  | some h => exact congrArg some (Nat.max_comm h f)

theorem badFlush_iff {r : RateSettings} {tc : Timecode} {f : Nat} (hf : f = tc.frames r.code r.dropFrame - r.origin) :
    badFlush r tc = true ↔ badLabel r.code tc ∨ 0 < f ∧ 4151263199 < ticks r.code f := by
  have frame : (r.relative tc).toNat = f := by
    rw [hf, RateSettings.relative]
    omega
  have positive : 0 < r.relative tc ↔ 0 < f := by omega
  simp [badFlush, outOfRange_iff, beyondLimit, frame, positive, Config.timelineLimit]

theorem flushTrack_eq {d : Device} {c : TrackContext} {y : TextTrack} (hb : c.body = .text y)
    (hs : c.state = .running ∨ c.state = .stalled) (x : Directive) (t : Slot) :
    d.flushTrack x t c =
      if badFlush y.settings.rate x.flushTimecode then d.refuse x .timecode
      else d.flushTo t c y (flushFrameOf y.settings.rate x.flushTimecode) := by
  have ha : c.state.runsOrStalls = true := by rcases hs with hs | hs <;> simp [hs, TrackState.runsOrStalls]
  rw [Device.flushTrack, onText_text hb (by rcases hs with hs | hs <;> simp [hs]) (by rcases hs with hs | hs <;> simp [hs]),
    Device.inState, if_pos ha]

theorem resumeDirective_eq {d : Device} {c : TrackContext} {y : TextTrack} (hb : c.body = .text y) (hs : c.state = .stalled)
    (x : Directive) (t : Slot) :
    d.resumeDirective x t c = if y.slots.contains .empty then d.resumeTrack t y .resume d else d.refuse x .full := by
  rw [Device.resumeDirective, onText_text hb (by simp [hs]) (by simp [hs]), Device.inState, if_pos (by simp [hs])]

end Sys2Proof.Machine

section
open Sys2Proof Sys2Proof.Machine Sys2Proof.Safety

/-- Settles O19: the close decision of the track with its drain end set. -/
theorem closeTrackDrainsText : Obligations.CloseTrackDrainsText := by
  intro s x rest t y h hb hs good
  have he : exec .closeTrack s = _ := ran_trackDirective h Device.closeTrack
  rw [closeTrack_text hb hs, drainText_eq (d := Taken s.dev rest) good] at he
  obtain ⟨past, bound, attained⟩ := drainEndOf_spec (Taken s.dev rest) t y
  generalize (Taken s.dev rest).drainEndOf t y = stop at he past bound attained
  let y' := { y with drainEnd := some stop }
  let c : TrackContext := { s.dev.track t with state := .draining, body := .text y' }
  let d := (Taken s.dev rest).setTrack t c
  have self : d.track t = c := Device.track_setTrack_self ..
  obtain ⟨n, z, closes⟩ := decideClose_closesTo (d := d) (congrArg TrackContext.body self) good (Taken s.dev rest)
  have he : exec .closeTrack s = .next { s with dev := (d.decideClose t (Taken s.dev rest)).settle } := he
  generalize d.decideClose t (Taken s.dev rest) = e at he closes
  have made := closes.made
  have track := closes.track
  obtain ⟨state, reports⟩ := closes.stays (.inr (by rw [self]; exact nofun))
  rw [self] at made state track
  obtain ⟨settings, consume, flushFrame, drainEnd⟩ := closesMade_same made
  have counters : z.counters = y'.counters := closesMade_counters made (show TrackState.draining ≠ .running from nofun)
  obtain ⟨clipPool, windows, writeQueue, readList, outstanding, engine, monitor⟩ := closes.same
  refine ⟨e.settle, z, stop, n, he, track.trans (by rw [state]), made, drainEnd, past, bound, attained, fun early => ?waits,
    closesMade_final made rfl past, settings, consume, counters, flushFrame,
    fun u hu => (closes.otherTracks hu).trans (Device.track_setTrack_of_ne (Taken s.dev rest) _ hu.symm),
    clipPool, windows, writeQueue, readList, outstanding, reports, engine, monitor⟩
  case waits =>
    have due : z.due .draining = true := (due_draining_iff z).2 ⟨stop, drainEnd, early⟩
    obtain done | ⟨-, full, waits⟩ := closesMade_ends made
    · exact Bool.noConfusion (done.symm.trans due)
    · exact ⟨waits, full⟩

/-- Settles O20: the checks of R48 in order, and the close decision of a RUNNING track with its flush frame raised. -/
theorem flushTrackClosesSegments : Obligations.FlushTrackClosesSegments := by
  intro s x rest t h
  have he : exec .flushTrack s = _ := ran_trackDirective h Device.flushTrack
  refine ⟨fun r hr => ?refused, ?flushed⟩
  case refused =>
    rw [he, Device.flushTrack, onText_refused hr (fun hst => ?_) (by decide)]
    simp only [List.mem_cons, List.not_mem_nil, or_false] at hst
    rcases hst with hst | hst <;> rw [hst] <;> rfl
  case flushed =>
    rintro y tc f g hb hs rfl hf rfl
    rw [flushTrack_eq hb hs] at he
    have frame : flushFrameOf y.settings.rate x.flushTimecode = f := by
      rw [hf, flushFrameOf, RateSettings.relative]
      exact Int.toNat_sub _ _
    have bad := badFlush_iff (r := y.settings.rate) (tc := x.flushTimecode) hf
    refine ⟨fun hbad => ?_, fun hh mm ss ff limit => ?_⟩
    · rw [he, if_pos (bad.2 (by simpa [badLabel, or_assoc, Directive.flushTimecode] using hbad))]
    · have fine : ¬badFlush y.settings.rate x.flushTimecode = true := fun hbad => by
        rcases bad.1 hbad with label | late
        · exact label.elim hh.not_gt (Or.elim · mm.not_gt (Or.elim · ss.not_gt ff.not_ge))
        · exact limit.elim late.1.ne' late.2.not_ge
      rw [if_neg fine, frame, Device.flushTo, raiseTo_eq] at he
      refine ⟨fun stalled => ?_, fun running good => ?_⟩
      · rw [he, if_neg (by rw [stalled]; exact nofun)]
        rfl
      · rw [if_pos running] at he
        let y' := { y with flushFrame := some (max f (y.flushFrame.getD 0)) }
        let c : TrackContext := { s.dev.track t with body := .text y' }
        let d := (Taken s.dev rest).setTrack t c
        have self : d.track t = c := Device.track_setTrack_self ..
        have state : (d.track t).state = .running := by rw [self]; exact running
        obtain ⟨n, z, closes⟩ := decideClose_closesTo (d := d) (congrArg TrackContext.body self) good (Taken s.dev rest)
        have he : exec .flushTrack s = .next { s with dev := (d.decideClose t (Taken s.dev rest)).settle } := he
        generalize d.decideClose t (Taken s.dev rest) = e at he closes
        have made := closes.made
        have track := closes.track
        rw [state] at made
        rw [self] at track
        obtain ⟨-, -, flushFrame, -⟩ := closesMade_same made
        obtain ⟨next, openStart⟩ := closesMade_next made
        obtain ⟨clipPool, windows, writeQueue, readList, outstanding, engine, monitor⟩ := closes.same
        refine ⟨e.settle, z, n, he, track, made, flushFrame, next ▸ Nat.le_add_right _ _,
          openStart ▸ le_openedAfter y' n, ?ends,
          fun u hu => (closes.otherTracks hu).trans (Device.track_setTrack_of_ne (Taken s.dev rest) _ hu.symm),
          clipPool, windows, writeQueue, readList, outstanding, engine, monitor⟩
        rcases closesMade_ends made with done | ⟨due, full, waits⟩
        · obtain ⟨stays, reports⟩ := closes.stays (.inl (state ▸ done))
          refine .inl ⟨stays.trans state, ?_, reports⟩
          by_contra reached
          have due := (due_running_iff z).2 (.inr ⟨_, flushFrame, not_lt.1 reached⟩)
          exact Bool.noConfusion (done.symm.trans due)
        · obtain ⟨stalled, reports⟩ := closes.stalls (state ▸ due) state
          exact .inr ⟨stalled, full, waits, reports⟩

/-- Settles O23: the checks of R52 in order, and the close decision of the track back in RUNNING. -/
theorem resumeTrackMakesTheWaitingClose : Obligations.ResumeTrackMakesTheWaitingClose := by
  intro s x rest t h
  have he : exec .resumeTrack s = _ := ran_trackDirective h Device.resumeDirective
  refine ⟨fun r hr => ?refused, fun y hb hs => ?resumed⟩
  case refused =>
    rw [he, Device.resumeDirective, onText_refused hr (fun hst => ?_) (by decide)]
    simp only [List.mem_cons, List.not_mem_nil, or_false] at hst
    rcases hst with hst | hst | hst <;> rw [hst] <;> rfl
  case resumed =>
    rw [resumeDirective_eq hb hs] at he
    refine ⟨fun full => by rw [he, if_neg (by simpa using full)], fun empty due good => ?_⟩
    have some : y.slots.contains .empty = true := by simpa using List.mem_of_getElem? empty
    rw [if_pos some, Device.resumeTrack] at he
    let c : TrackContext := { s.dev.track t with state := .running }
    let d := ((Taken s.dev rest).setTrack t c).post (.trackResumed t .resume y.next)
    have self : d.track t = c := Device.track_setTrack_self (Taken s.dev rest) ..
    have state : (d.track t).state = .running := by rw [self]
    obtain ⟨n, z, closes⟩ :=
      decideClose_closesTo (d := d) ((congrArg TrackContext.body self).trans hb) good (Taken s.dev rest)
    have he : exec .resumeTrack s = .next { s with dev := (d.decideClose t (Taken s.dev rest)).settle } := he
    generalize d.decideClose t (Taken s.dev rest) = e at he closes
    have made := closes.made
    have track := closes.track
    rw [state] at made
    rw [self] at track
    obtain ⟨k, rfl, records⟩ := closesMade_first made due empty
    obtain ⟨clipPool, windows, writeQueue, readList, outstanding, engine, monitor⟩ := closes.same
    refine ⟨e.settle, z, k + 1, _, _, he, track, made, records, rfl, (closesMade_next made).1 ▸ Nat.lt_add_of_pos_right k.succ_pos,
      ?ends, fun u hu => (closes.otherTracks hu).trans (Device.track_setTrack_of_ne (Taken s.dev rest) _ hu.symm),
      clipPool, windows, writeQueue, readList, outstanding, engine, monitor⟩
    rcases closesMade_ends made with done | ⟨due, full, waits⟩
    · obtain ⟨stays, reports⟩ := closes.stays (.inl (state ▸ done))
      exact .inl ⟨stays.trans state, done, reports⟩
    · obtain ⟨stalled, reports⟩ := closes.stalls (state ▸ due) state
      exact .inr ⟨stalled, full, waits, reports⟩

end
end

section

/-! PROOFS. The segment record (spec 06 section 6.3): its fragments, and the place of each field in its bytes. -/

namespace Sys2Proof.Machine

open Sys2Proof Sys2Proof.Safety

/-! ## Fields of bytes (R179) -/

@[simp] theorem leBytes_length (n v : Nat) : (leBytes n v).length = n := by
  induction n generalizing v with
  | zero => rfl
  | succ n ih => simp [leBytes, ih]

@[simp] theorem zeros_length (n : Nat) : (zeros n).length = n :=
  List.length_replicate

theorem leNat_leBytes (n v : Nat) : leNat (leBytes n v) = v % 256 ^ n := by
  induction n generalizing v with
  | zero => simp [leBytes, leNat, Nat.mod_one]
  | succ n ih =>
    rw [leBytes, leNat, ih, BitVec.toNat_ofNat]
    calc v % 256 + 256 * (v / 256 % 256 ^ n) = v % (256 * 256 ^ n) := Nat.mod_mul.symm
      _ = v % 256 ^ (n + 1) := by rw [Nat.pow_succ']

theorem leNat_zeros (n : Nat) : leNat (zeros n) = 0 := by
  induction n with
  | zero => rfl
  | succ n ih => simpa [zeros, List.replicate_succ, leNat] using ih

/-- A field behind bytes that end before it. -/
theorem field_append (a b : List Byte) (k len : Nat) : field (a ++ b) (a.length + k) len = field b k len := by
  rw [field, List.drop_append, List.drop_eq_nil_of_le (Nat.le_add_right _ _), Nat.add_sub_cancel_left]
  rfl

theorem field_leBytes_skip {n off : Nat} (h : n ≤ off) (v len : Nat) (b : List Byte) :
    field (leBytes n v ++ b) off len = field b (off - n) len := by
  have behind := field_append (leBytes n v) b (off - n) len
  rwa [leBytes_length, Nat.add_sub_cancel' h] at behind

theorem field_zeros_skip {n off : Nat} (h : n ≤ off) (len : Nat) (b : List Byte) :
    field (zeros n ++ b) off len = field b (off - n) len := by
  have behind := field_append (zeros n) b (off - n) len
  rwa [zeros_length, Nat.add_sub_cancel' h] at behind

theorem field_leBytes (n v : Nat) (b : List Byte) : field (leBytes n v ++ b) 0 n = v % 256 ^ n := by
  have whole : (leBytes n v ++ b).take n = leBytes n v := List.take_left' (leBytes_length n v)
  rw [field, List.drop_zero, whole, leNat_leBytes]

theorem field_zeros {n k len : Nat} (h : k + len ≤ n) (b : List Byte) : field (zeros n ++ b) k len = 0 := by
  have run : ((zeros n ++ b).drop k).take len = zeros len := by
    rw [zeros, List.drop_append_of_le_length (by rw [List.length_replicate]; omega), List.drop_replicate,
      List.take_append_of_le_length (by rw [List.length_replicate]; omega), List.take_replicate, Nat.min_eq_left (by omega)]
    rfl
  rw [field, run, leNat_zeros]

/-! ## Flags read back -/

theorem le_of_flagAt {i b : Nat} {l : List Bool} (h : FlagAt i l b) : i ≤ b := by
  induction l generalizing i with
  | nil => exact h.elim
  | cons c l ih =>
    rcases h with ⟨rfl, -⟩ | h
    · exact le_rfl
    · exact (Nat.le_succ i).trans (ih h)

theorem flagAt_add_iff (i : Nat) (l : List Bool) (k : Nat) : FlagAt i l (i + k) ↔ l[k]? = some true := by
  induction l generalizing i k with
  | nil => simp [FlagAt]
  | cons c l ih =>
    cases k with
    | zero =>
      have last : ¬FlagAt (i + 1) l i := fun h => absurd (le_of_flagAt h) (Nat.not_succ_le_self i)
      simp [FlagAt, last]
    | succ k => simp [FlagAt, ← ih (i + 1) k, Nat.add_assoc, Nat.add_comm 1]

/-- Flags that stand from bit 0 upward are read back from their bits. -/
theorem eq_map_testBit (l : List Bool) :
    l = (List.range l.length).map fun k => (flagBitsFrom 0 l % 2 ^ l.length).testBit k := by
  refine List.ext_getElem (by simp) fun k hk _ => ?_
  have read := (testBit_flagBitsFrom 0 l (0 + k)).trans (flagAt_add_iff 0 l k)
  rw [List.getElem_map, List.getElem_range, Nat.testBit_mod_two_pow, decide_eq_true hk, Bool.true_and, Bool.eq_iff_iff]
  rw [Nat.zero_add, List.getElem?_eq_getElem hk, Option.some.injEq] at read
  exact read.symm

/-! ## Ticks (R62) -/

theorem rateOf_den_pos (code : Nat) : 0 < (rateOf code).num ∧ (rateOf code).num ≤ 48000 * (rateOf code).den := by
  unfold rateOf
  split <;> decide

/-- A frame lasts at least a tick at every rate. -/
theorem ticks_lt {code a b : Nat} (h : a < b) : ticks code a < ticks code b := by
  obtain ⟨pos, fast⟩ := rateOf_den_pos code
  rw [ticks, ticks]
  generalize (rateOf code).den = den at fast
  generalize (rateOf code).num = num at pos fast
  have later : (2 * a * 48000 * den + num) + 2 * num ≤ 2 * b * 48000 * den + num := by
    obtain ⟨k, rfl⟩ := Nat.exists_eq_add_of_lt h
    nlinarith [Nat.zero_le (k * den)]
  have step := Nat.div_le_div_right (c := 2 * num) later
  rw [Nat.add_div_right _ (by omega)] at step
  omega

theorem ticks_le {code a b : Nat} (h : a ≤ b) : ticks code a ≤ ticks code b := by
  rcases Nat.eq_or_lt_of_le h with rfl | h
  · exact le_rfl
  · exact (ticks_lt h).le

/-! ## The fragments of a record (R99, R100) -/

theorem filterMap_ite {α β : Type} (p : α → Prop) [DecidablePred p] (g : α → β) (l : List α) :
    l.filterMap (fun a => if p a then some (g a) else none) = (l.filter fun a => decide (p a)).map g := by
  induction l with
  | nil => rfl
  | cons a l ih => by_cases h : p a <;> simp [h, ih]

/-- The fragment of a cue that intersects the segment from `first` to `last` (R99). -/
def cutFragment (code first last : Nat) (c : CueEntry) : Fragment :=
  { intakeSlot := c.intakeSlot
    hostId := c.hostId
    startOffset := ticks code (max c.start first) - ticks code first
    endOffset := ticks code (min c.stop last) - ticks code first
    row := c.row
    height := c.height
    style := c.style
    contIn := decide (c.start < first)
    contOut := decide (last < c.stop)
    flags := c.flags }

/-- Every fragment of a segment, before the cut at 60 (R99, R100). -/
def allFragments (code first last : Nat) (cues : List CueEntry) : List Fragment :=
  (cues.filter fun c => decide (max c.start first < min c.stop last)).map (cutFragment code first last)

theorem assemble_eq (t : Slot) (st : TrackState) (x : TextTrack) (cues : List CueEntry) :
    assemble t st x cues =
      let all := allFragments x.settings.rate.code x.openStart x.openEnd cues
      { slot := t
        segment := x.next
        startTick := ticks x.settings.rate.code x.openStart
        lengthTicks := ticks x.settings.rate.code x.openEnd - ticks x.settings.rate.code x.openStart
        fragments := all.take 60
        omitted := all.length - 60
        overflow := decide (60 < all.length)
        final := x.lastOfDrain st } := by
  have all : cues.filterMap (fragmentOf x.settings.rate.code x.openStart x.openEnd) =
      allFragments x.settings.rate.code x.openStart x.openEnd cues := filterMap_ite _ _ cues
  simp only [assemble, all, Config.fragmentLimit]

/-- Each fragment lies inside its segment, and reaches the edge that its cue crosses (R99). -/
theorem fragment_inside {code first last : Nat} {cues : List CueEntry} {f : Fragment}
    (h : f ∈ allFragments code first last cues) :
    f.startOffset < f.endOffset ∧ f.endOffset ≤ ticks code last - ticks code first ∧
      (f.contIn = true → f.startOffset = 0) ∧ (f.contOut = true → f.endOffset = ticks code last - ticks code first) := by
  obtain ⟨c, hc, rfl⟩ := List.mem_map.1 h
  have cut : max c.start first < min c.stop last := of_decide_eq_true (List.mem_filter.1 hc).2
  refine ⟨?_, Nat.sub_le_sub_right (ticks_le (min_le_right _ _)) _, fun before => ?_, fun after => ?_⟩
  · exact Nat.sub_lt_sub_right (ticks_le (le_max_right _ _)) (ticks_lt cut)
  · show ticks code (max c.start first) - _ = 0
    rw [max_eq_right (of_decide_eq_true before).le, Nat.sub_self]
  · show ticks code (min c.stop last) - _ = _
    rw [min_eq_right (of_decide_eq_true after).le]

/-! ## The bytes of a record (spec 12 section 12.3) -/

theorem fragment_bytes_length (f : Fragment) : f.bytes.length = 16 := by
  simp [Fragment.bytes]

theorem flatMap_bytes_length (l : List Fragment) : (l.flatMap Fragment.bytes).length = 16 * l.length := by
  induction l with
  | nil => rfl
  | cons f l ih => simp [fragment_bytes_length, ih, Nat.mul_succ, Nat.add_comm]

/-- The fields of a fragment entry, whatever stands behind it. -/
theorem fragment_fields (f : Fragment) (b : List Byte) :
    field (f.bytes ++ b) 0 2 = f.intakeSlot % 2 ^ 16 ∧ field (f.bytes ++ b) 2 4 = f.hostId.toNat ∧
      field (f.bytes ++ b) 6 3 = f.startOffset % 2 ^ 24 ∧ field (f.bytes ++ b) 9 3 = f.endOffset % 2 ^ 24 ∧
      field (f.bytes ++ b) 12 1 = (f.row % 16 + 16 * f.height) % 2 ^ 8 ∧ field (f.bytes ++ b) 13 1 = f.style.toNat ∧
      field (f.bytes ++ b) 14 1 = f.flagByte % 2 ^ 8 ∧ field (f.bytes ++ b) 15 1 = 0 := by
  have host : f.hostId.toNat % 256 ^ 4 = f.hostId.toNat := Nat.mod_eq_of_lt f.hostId.isLt
  have style : f.style.toNat % 256 ^ 1 = f.style.toNat := Nat.mod_eq_of_lt (by omega)
  simp only [Fragment.bytes, List.append_assoc]
  refine ⟨?_, ?_, ?_, ?_, ?_, ?_, ?_, ?_⟩ <;>
    simp (disch := decide) only [field_leBytes_skip, field_leBytes, field_zeros, Nat.reduceSub, host, style] <;> rfl

theorem fragment_flagByte (f : Fragment) :
    f.flagByte = flagBitsFrom 0 [f.contIn, f.contOut, f.flags.lateShifted, f.flags.moved, f.flags.gapClosed,
      f.flags.extended, f.flags.overrate, f.flags.overwidth] := by
  simp only [Fragment.flagByte, CueFlags.byte, flagBitsFrom, Nat.reduceAdd]
  omega

/-- The fields of a record's header, whatever stands behind it. -/
theorem header_fields (r : SegmentRecord) (b : List Byte) :
    field (r.header ++ b) 0 1 = r.slot.val % 2 ^ 8 ∧ field (r.header ++ b) 1 1 = r.flagByte % 2 ^ 8 ∧
      field (r.header ++ b) 2 1 = r.fragments.length % 2 ^ 8 ∧ field (r.header ++ b) 4 2 = r.omitted % 2 ^ 16 ∧
      field (r.header ++ b) 8 4 = r.segment % 2 ^ 32 ∧ field (r.header ++ b) 12 4 = r.startTick % 2 ^ 32 ∧
      field (r.header ++ b) 16 4 = r.lengthTicks % 2 ^ 32 := by
  simp only [SegmentRecord.header, List.append_assoc]
  refine ⟨?_, ?_, ?_, ?_, ?_, ?_, ?_⟩ <;>
    simp (disch := decide) only [field_leBytes_skip, field_zeros_skip, field_leBytes, Nat.reduceSub] <;> rfl

/-- The header bytes without a field are zero. -/
theorem header_zeros (r : SegmentRecord) (b : List Byte) {i : Nat} (h : i = 3 ∨ i = 6 ∨ i = 7 ∨ 20 ≤ i ∧ i < 32) :
    field (r.header ++ b) i 1 = 0 := by
  simp only [SegmentRecord.header, List.append_assoc]
  rcases h with rfl | rfl | rfl | ⟨low, high⟩
  all_goals
    simp (disch := omega) only [field_leBytes_skip, field_zeros_skip, field_zeros, Nat.reduceSub]

theorem header_length (r : SegmentRecord) : r.header.length = 32 := by
  simp [SegmentRecord.header]

/-- A record is its header, its fragments, zero bytes up to the trailer, and the trailer. -/
theorem bytes_eq {r : SegmentRecord} (h : r.fragments.length ≤ 60) :
    r.bytes = r.header ++ (r.fragments.flatMap Fragment.bytes ++ (zeros (984 - 16 * r.fragments.length) ++ r.trailer)) := by
  have area : r.fragmentArea = r.fragments.flatMap Fragment.bytes ++ zeros (984 - 16 * r.fragments.length) := by
    rw [SegmentRecord.fragmentArea, List.take_append, flatMap_bytes_length, List.take_of_length_le (by
      rw [flatMap_bytes_length]; omega), zeros, List.take_replicate, Nat.min_eq_left (by omega)]
    rfl
  rw [SegmentRecord.bytes, area]
  simp only [List.append_assoc]

theorem bytes_length {r : SegmentRecord} (h : r.fragments.length ≤ 60) : r.bytes.length = 1024 := by
  rw [bytes_eq h]
  simp only [List.length_append, header_length, flatMap_bytes_length, zeros_length, SegmentRecord.trailer, leBytes_length]
  omega

/-- The bytes of a record from a fragment's entry on. -/
theorem field_fragment {r : SegmentRecord} (h : r.fragments.length ≤ 60) {i : Nat} {f : Fragment}
    (hf : r.fragments[i]? = some f) :
    ∃ b, ∀ k {m len}, m = 32 + 16 * i + k → field r.bytes m len = field (f.bytes ++ b) k len := by
  obtain ⟨hi, hf⟩ := List.getElem?_eq_some_iff.1 hf
  have split : r.fragments = r.fragments.take i ++ f :: r.fragments.drop (i + 1) := by
    rw [← hf, List.cons_getElem_drop_succ, List.take_append_drop]
  have whole : r.bytes = (r.header ++ (r.fragments.take i).flatMap Fragment.bytes) ++ (f.bytes ++
      ((r.fragments.drop (i + 1)).flatMap Fragment.bytes ++ (zeros (984 - 16 * r.fragments.length) ++ r.trailer))) := by
    have parts := congrArg (List.flatMap Fragment.bytes) split
    rw [List.flatMap_append, List.flatMap_cons] at parts
    rw [bytes_eq h, parts]
    simp only [List.append_assoc]
  generalize (r.fragments.drop (i + 1)).flatMap Fragment.bytes ++ _ = b at whole
  refine ⟨b, fun k m len hm => ?_⟩
  have before : (r.header ++ (r.fragments.take i).flatMap Fragment.bytes).length = 32 + 16 * i := by
    rw [List.length_append, header_length, flatMap_bytes_length, List.length_take, Nat.min_eq_left hi.le]
  rw [hm, whole, ← before, field_append]

/-- The bytes of a record behind its fragments. -/
theorem field_behind {r : SegmentRecord} (h : r.fragments.length ≤ 60) (k len : Nat) :
    field r.bytes (32 + 16 * r.fragments.length + k) len =
      field (zeros (984 - 16 * r.fragments.length) ++ r.trailer) k len := by
  have before : (r.header ++ r.fragments.flatMap Fragment.bytes).length = 32 + 16 * r.fragments.length := by
    rw [List.length_append, header_length, flatMap_bytes_length]
  rw [bytes_eq h, ← List.append_assoc, ← before, field_append]

theorem field_trailer {r : SegmentRecord} (h : r.fragments.length ≤ 60) :
    field r.bytes 1016 4 = r.segment % 2 ^ 32 ∧ field r.bytes 1020 4 = 0x5A17C3E9 := by
  have behind : ∀ k len, field r.bytes (1016 + k) len = field r.trailer k len := fun k len => by
    have at1016 : 1016 + k = 32 + 16 * r.fragments.length + (984 - 16 * r.fragments.length + k) := by omega
    rw [at1016, field_behind h, field_zeros_skip (Nat.le_add_right _ _), Nat.add_sub_cancel_left]
  refine ⟨(behind 0 4).trans (field_leBytes 4 _ _), (behind 4 4).trans ?_⟩
  rw [SegmentRecord.trailer, field_leBytes_skip le_rfl, ← List.append_nil (leBytes 4 segmentMark), field_leBytes]
  rfl

theorem field_zero {r : SegmentRecord} (h : r.fragments.length ≤ 60) {i : Nat}
    (hi : i = 3 ∨ i = 6 ∨ i = 7 ∨ 20 ≤ i ∧ i < 32 ∨ 32 + 16 * r.fragments.length ≤ i ∧ i < 1016) :
    field r.bytes i 1 = 0 := by
  by_cases behind : 32 + 16 * r.fragments.length ≤ i
  · obtain ⟨k, rfl⟩ := Nat.exists_eq_add_of_le behind
    rw [field_behind h, field_zeros (by omega)]
  · rw [bytes_eq h]
    exact header_zeros r _ (by omega)

end Sys2Proof.Machine

section
open Sys2Proof Sys2Proof.Machine Sys2Proof.Safety

/-- Settles O27: the fields of the assembled record, its bytes, the active list, when a segment is due, and the closes of a
decision. -/
theorem segmentRecordIsAssembled : Obligations.SegmentRecordIsAssembled := by
  refine ⟨?record, fun d t => ⟨activeCues_nodup d t, ?order, fun i c => Device.mem_activeCues⟩,
    fun x => ⟨due_running_iff x, rfl, due_draining_iff x, rfl⟩, ?closes⟩
  case order => exact (activeCues_inOrder d t).imp cueBefore_eq_false_iff.1
  case closes =>
    rintro d before e t st x hb rfl good rfl
    obtain ⟨n, z, closes⟩ := decideClose_closesTo hb good before
    exact ⟨n, z, closes.made, closes.device, closes.stalls, closes.stays⟩
  case record =>
    rintro t st x cues r code first last rfl - rfl rfl hr
    have fragments : r.fragments = (allFragments x.settings.rate.code x.openStart x.openEnd cues).take 60 := by
      rw [hr, assemble_eq]
    have omitted : r.omitted = (allFragments x.settings.rate.code x.openStart x.openEnd cues).length - 60 := by
      rw [hr, assemble_eq]
    have overflow : r.overflow = true ↔ 60 < (allFragments x.settings.rate.code x.openStart x.openEnd cues).length := by
      rw [hr, assemble_eq]
      exact decide_eq_true_iff
    have lengthTicks : r.lengthTicks = ticks x.settings.rate.code x.openEnd - ticks x.settings.rate.code x.openStart := by
      rw [hr, assemble_eq]
    have startTick : r.startTick = ticks x.settings.rate.code x.openStart := by rw [hr, assemble_eq]
    have slot : r.slot = t := by rw [hr, assemble_eq]
    have few : r.fragments.length ≤ 60 := fragments ▸ List.length_take_le _ _
    obtain ⟨slotByte, flagByte, countByte, omittedBytes, segmentBytes, startBytes, lengthBytes⟩ := header_fields r
      (r.fragments.flatMap Fragment.bytes ++ (zeros (984 - 16 * r.fragments.length) ++ r.trailer))
    rw [← bytes_eq few] at slotByte flagByte countByte omittedBytes segmentBytes startBytes lengthBytes
    obtain ⟨trailer, mark⟩ := field_trailer few
    refine ⟨slot, by rw [hr, assemble_eq], startTick, ?ends, fragments, ?counted, ?overflows, ?final, ?inside, bytes_length few,
      slotByte.trans (slot ▸ Nat.mod_eq_of_lt (by omega)), flagByte.trans ?flags, countByte.trans (Nat.mod_eq_of_lt (by omega)),
      omittedBytes, segmentBytes, startBytes, lengthBytes, fun i f hf => ?entry, fun i => field_zero few, trailer, mark⟩
    case ends =>
      rw [startTick, lengthTicks]
      exact Nat.add_sub_of_le (ticks_le (Nat.le_add_right _ _))
    case counted =>
      rw [fragments, omitted, List.length_take, List.countP_eq_length_filter]
      have all : (allFragments x.settings.rate.code x.openStart x.openEnd cues).length =
        (cues.filter fun c => decide (max c.start x.openStart < min c.stop x.openEnd)).length := List.length_map _
      rw [all]
      exact (by omega : ∀ n, min 60 n + (n - 60) = n) _
    case overflows =>
      rw [overflow, omitted]
      omega
    case final =>
      rw [hr, assemble_eq]
      exact lastOfDrain_iff x st
    case inside =>
      rw [lengthTicks, fragments]
      exact fun f hf => fragment_inside (List.mem_of_mem_take hf)
    case flags =>
      rw [SegmentRecord.flagByte]
      cases r.overflow <;> cases r.final <;> rfl
    case entry =>
      obtain ⟨b, place⟩ := field_fragment few hf
      obtain ⟨intakeSlot, hostId, startOffset, endOffset, rows, style, flags, pad⟩ := fragment_fields f b
      refine ⟨(place 0 rfl).trans intakeSlot, (place 2 (by omega)).trans hostId, (place 6 (by omega)).trans startOffset,
        (place 9 (by omega)).trans endOffset, (place 12 (by omega)).trans rows, (place 13 (by omega)).trans style,
        (place 15 (by omega)).trans pad, ?_⟩
      rw [place 14 (by omega), flags, fragment_flagByte]
      exact eq_map_testBit _

end
end

section

/-! PROOFS. Writes into an intake ring (spec 01 section 1.3), and the drops of captured cue records in the order of the intake steps
(spec 05). -/

namespace Sys2Proof.Machine

open Sys2Proof Sys2Proof.Safety

/-! ## The intake slots that a write touches (R6) -/

theorem firstHeld_of_whole {d : Device} {t : Slot} {base addr : Addr} {beats : List Beat}
    (hw : wholeRecord 128 base addr beats = true) (hn : d.slotHeld t ((addr.toNat - base.toNat) / 128) = false) :
    d.firstHeld t base addr beats.length = none := by
  simp only [wholeRecord, Bool.and_eq_true, decide_eq_true_eq] at hw
  obtain ⟨⟨count, aligned⟩, -⟩ := hw
  have touched : touchedSlots base addr beats.length = [(addr.toNat - base.toNat) / 128] := by
    have one : (addr.toNat - base.toNat + 8 * beats.length - 1) / 128 + 1 - (addr.toNat - base.toNat) / 128 = 1 := by omega
    rw [touchedSlots, one]
    rfl
  rw [Device.firstHeld, touched, List.find?_singleton, hn]
  rfl

theorem firstHeld_of_part {d : Device} {t : Slot} {base addr : Addr} {n : Nat} (hpos : 0 < n)
    (h : ∀ k, addr.toNat - base.toNat < 128 * (k + 1) → 128 * k < addr.toNat - base.toNat + 8 * n → d.slotHeld t k = false) :
    d.firstHeld t base addr n = none := by
  rw [Device.firstHeld, List.find?_eq_none]
  intro k hk
  rw [touchedSlots, List.mem_range'_1] at hk
  rw [h k (by omega) (by omega)]
  exact Bool.false_ne_true

theorem burstOk_pos {addr : Addr} {n : Nat} (h : burstOk addr n = true) : 0 < n := by
  simp only [burstOk, Bool.and_eq_true, decide_eq_true_eq] at h
  omega

/-- An unfenced write into an intake ring joins the queue and is handed to the block of its ring (R6, R9). -/
theorem exec_intakeWrite {s : State} {id : Nat} {addr : Addr} {beats : List Beat} {m : WindowMatch} {t : Slot}
    (hr : s.dev.resetN = true) (hw : Writing s.dev addr beats m) (ht : m.window.slot = some t)
    (hk : m.window.kind = .textIntake ∨ m.window.kind = .clipIntake)
    (hh : s.dev.firstHeld t m.window.base addr beats.length = none) :
    exec (.upstreamWrite id addr beats) s = .next { s with dev := Device.settle (Device.offerHead
      ((Joined s.dev id addr beats m).intakeWrite t m.window.kind m.window.base addr beats)) } := by
  obtain ⟨burst, room, mode, undamaged, found⟩ := hw
  have ring : Device.matchedWrite { s.dev with ports := [] } id addr beats m =
      Device.ringWrite { s.dev with ports := [] } id addr beats m := by
    rcases hk with hk | hk <;> simp only [Device.matchedWrite, hk]
  have unheld : Device.firstHeld { s.dev with ports := [] } t m.window.base addr beats.length = none := hh
  have placed : Device.placeWrite { s.dev with ports := [] } id addr beats
        (writeMatch s.dev.engine.mode (s.dev.lookup addr)) =
      (Joined s.dev id addr beats m).intakeWrite t m.window.kind m.window.base addr beats := by
    rw [found, mode]
    refine ring.trans ?_
    simp only [Device.ringWrite, ht, unheld]
    rfl
  show execUpstreamWrite id addr beats s = _
  rw [execUpstreamWrite, if_pos burst, if_pos hr, State.ran_released hr,
    writeArrives_good (d := { s.dev with ports := [] }) room undamaged]
  exact congrArg (fun d : Device => Host.Outcome.next { s with dev := d.offerHead.settle }) placed

/-! ## Pools with an entry free -/

theorem lowestFree_isSome {α : Type} (k n : Nat) (l : List (Option α)) (h : (poolEntries n l).length < l.length) :
    ∃ i, lowestFree k l = some i := by
  induction l generalizing k n with
  | nil => exact absurd h (Nat.lt_irrefl 0)
  | cons o l ih =>
    cases o with
    | none => exact ⟨k, rfl⟩
    | some x => exact ih (k + 1) (n + 1) (Nat.lt_of_succ_lt_succ h)

/-! ## The first entry of a list that applies, entry by entry -/

theorem firstThat_cons {α : Type} {p : α → Prop} {a q : α} {l : List α} :
    firstThat p (a :: l) = some q ↔ p a ∧ a = q ∨ ¬p a ∧ firstThat p l = some q := by
  by_cases h : p a <;> simp [firstThat, h]

/-! ## The steps of cue intake -/

/-- A text has one line more than it has line breaks (R68). -/
theorem textLines_length (bs : List Byte) : (textLines bs).length = bs.count 0x0A + 1 := by
  induction bs with
  | nil => rfl
  | cons b bs ih =>
    rw [textLines]
    split
    next hb => simp [hb, ih]
    next hb =>
      rw [List.count_cons_of_ne (by simpa using hb)]
      split
      next none => simp [none] at ih
      next l ls some => simpa [some] using ih

theorem ticks_zero (code : Nat) : ticks code 0 = 0 := by
  rw [ticks]
  exact Nat.div_eq_of_lt (by have := (rateOf_den_pos code).1; omega)

theorem decideCue_invalid {d : Device} {t : Slot} {x : TextTrack} {n : Nat} {r : CueRecord} {detail : DropDetail}
    (h : r.invalid x.settings.rate.code = some detail) :
    decideCue d t x n r = .dropped false (CueDrop.plain .malformed detail n r) := by
  simp [decideCue, h]

theorem decideCue_valid {d : Device} {t : Slot} {x : TextTrack} {n : Nat} {r : CueRecord}
    (h : r.invalid x.settings.rate.code = none) : decideCue d t x n r = convertCue d t x n r := by
  simp [decideCue, h]

/-- A late cue is dropped where it ends by the start of the open segment or the track's policy is DROP; any other starts no earlier
than that segment (R77). -/
theorem lateCheckCue_eq (d : Device) (t : Slot) (x : TextTrack) (n : Nat) (r : CueRecord) (adjusted : Bool)
    (start stop : Nat) :
    lateCheckCue d t x n r adjusted start stop =
      if start < x.openStart ∧ (stop ≤ x.openStart ∨ x.tuning.late = .drop) then
        .dropped adjusted
          { CueDrop.plain .late .none n r with
            times := some ⟨start, stop, false⟩
            openStart := some x.openStart }
      else extendCue d t x n r adjusted (decide (start < x.openStart)) (max start x.openStart) stop := by
  have policy : x.tuning.late = .shift ∨ x.tuning.late = .drop := by cases x.tuning.late <;> simp
  unfold lateCheckCue
  by_cases early : x.openStart ≤ start
  · rw [if_pos early, if_neg (by omega), decide_eq_false (by omega), max_eq_left early]
  · have late := not_le.1 early
    by_cases shifts : x.openStart < stop ∧ x.tuning.late = .shift
    · have kept : ¬(start < x.openStart ∧ (stop ≤ x.openStart ∨ x.tuning.late = .drop)) := by
        rintro ⟨-, ends | drops⟩
        · omega
        · simp [shifts.2] at drops
      rw [if_neg early, if_pos shifts, if_neg kept, decide_eq_true late, max_eq_right late.le]
    · have dropped : start < x.openStart ∧ (stop ≤ x.openStart ∨ x.tuning.late = .drop) :=
        ⟨late, by rcases policy with shift | drop
                  · exact .inl (not_lt.1 fun ends => shifts ⟨ends, shift⟩)
                  · exact .inr drop⟩
      rw [if_neg early, if_neg shifts, if_pos dropped]

/-- The flags of a cue before its placement (R77, R78). -/
def intakeFlags (late short : Bool) : CueFlags :=
  { CueFlags.noFlags with lateShifted := late, extended := short }

/-- The end of a cue after the minimum duration (R78). -/
theorem extended_end {start stop minimum : Nat} (hs : start ≤ stop) :
    decide (stop - start < minimum) = decide (stop < start + minimum) ∧
      (if decide (stop - start < minimum) then start + minimum else stop) = max stop (start + minimum) := by
  have short : stop - start < minimum ↔ stop < start + minimum := by omega
  refine ⟨decide_eq_decide.2 short, ?_⟩
  by_cases h : stop - start < minimum
  · rw [if_pos (decide_eq_true h), max_eq_right (short.1 h).le]
  · rw [if_neg (by simpa using h), max_eq_left (not_lt.1 fun k => h (short.2 k))]

section
variable {d : Device} {t : Slot} {x : TextTrack} {start stop : Nat}

theorem extendCue_pool (hs : start ≤ stop)
    (h : x.settings.reserve ≤ (d.trackCues t).length ∧ 256 - d.cuesInUse ≤ d.cuesOwed t) (n : Nat) (r : CueRecord)
    (adjusted late : Bool) :
    extendCue d t x n r adjusted late start stop =
      .dropped adjusted
        { CueDrop.plain .pool .none n r with
          times := some ⟨start, max stop (start + x.settings.minDuration), false⟩
          flags := intakeFlags late (decide (stop < start + x.settings.minDuration))
          pool := some (d.cueFigures t x.settings.reserve) } := by
  obtain ⟨short, ends⟩ := extended_end (minimum := x.settings.minDuration) hs
  have none : d.allocateCue t x.settings.reserve = none := if_neg (by
    rintro (held | owed)
    · exact absurd held (not_lt.2 h.1)
    · exact absurd owed (not_lt.2 h.2))
  simp only [extendCue, none, ends]
  rw [short]
  rfl

theorem extendCue_placed (hs : start ≤ stop)
    (h : ¬(x.settings.reserve ≤ (d.trackCues t).length ∧ 256 - d.cuesInUse ≤ d.cuesOwed t)) (hroom : d.cuesInUse < 256)
    (hgood : d.damagedActive t = none) (n : Nat) (r : CueRecord) (adjusted late : Bool) :
    ∃ number, extendCue d t x n r adjusted late start stop =
      placeCue d t x n r adjusted number start (max stop (start + x.settings.minDuration))
        (intakeFlags late (decide (stop < start + x.settings.minDuration))) := by
  obtain ⟨short, ends⟩ := extended_end (minimum := x.settings.minDuration) hs
  obtain ⟨number, free⟩ := lowestFree_isSome 0 0 d.cuePool.toList (hroom.trans_eq d.cuePool.length_toList.symm)
  have some : d.allocateCue t x.settings.reserve = some number := by
    refine (if_pos ?_).trans free
    rw [← not_le, ← not_le, ← not_and_or]
    exact h
  refine ⟨number, ?_⟩
  simp only [extendCue, some, hgood, ends]
  rw [short]
  rfl

/-- A candidate row is taken by a cue already placed (R83). -/
theorem rowFree_eq_false_iff {cues : List (Nat × CueEntry)} {height row : Nat} :
    rowFree cues start stop height row = false ↔ ∃ q ∈ cues, q.2.start < stop ∧ start < q.2.stop ∧ q.2.row < row + height ∧
      row < q.2.row + q.2.height := by
  simp [rowFree, CueEntry.blocks, bandsMeet, and_assoc]

/-- A cue for which no candidate row is free is dropped (R83). -/
theorem placeCue_noRoom {r : CueRecord}
    (h : ∀ row ∈ candidateRows r.anchor r.anchorRow r.height, ∃ q ∈ d.activeCues t, q.2.start < stop ∧ start < q.2.stop ∧
      q.2.row < row + r.height ∧ row < q.2.row + q.2.height) (n : Nat) (adjusted : Bool) (number : Nat) (flags : CueFlags) :
    placeCue d t x n r adjusted number start stop flags =
      .dropped adjusted
        { CueDrop.plain .noRoom .none n r with
          times := some ⟨start, stop, false⟩
          flags := { flags with moved := decide (r.anchor = 2 ∧ 16 - r.height < r.anchorRow) }
          heightAnchor := some (r.height, r.anchor) } := by
  have none : placeRow (d.activeCues t) start stop r.height (candidateRows r.anchor r.anchorRow r.height) = none := by
    rw [placeRow, List.find?_eq_none]
    intro row hrow
    rw [rowFree_eq_false_iff.2 (h row hrow)]
    exact Bool.false_ne_true
  simp only [placeCue, none, CueRecord.clampedRow, Bool.decide_and]

end

theorem beyondLimit_relative_iff (rate : RateSettings) (tc : Timecode) :
    beyondLimit rate.code (rate.relative tc) = true ↔
      4151263199 < ticks rate.code (tc.frames rate.code rate.dropFrame - rate.origin) := by
  have frame : (rate.relative tc).toNat = tc.frames rate.code rate.dropFrame - rate.origin := Int.toNat_sub _ _
  rw [beyondLimit, Bool.and_eq_true, decide_eq_true_eq, decide_eq_true_eq, frame]
  refine ⟨And.right, fun h => ⟨?_, h⟩⟩
  by_contra early
  have zero : tc.frames rate.code rate.dropFrame - rate.origin = 0 := frame ▸ Int.toNat_eq_zero.2 (not_lt.1 early)
  rw [zero, ticks_zero] at h
  exact absurd h (Nat.not_lt_zero _)

/-- The first reason of R74 to R83 that applies to a captured cue is the reason for which the intake steps drop it. -/
theorem decideCue_dropped {d : Device} {t : Slot} {x : TextTrack} {n : Nat} {r : CueRecord} {q : Prop × Bool × CueDrop}
    (h : firstThat Prod.fst (cueDrops d t x n r) = some q)
    (hgood : q.2.2.reason = .noRoom → d.damagedActive t = none) :
    decideCue d t x n r = .dropped q.2.1 q.2.2 := by
  have breaks := textLines_length r.text
  unfold cueDrops at h
  rcases firstThat_cons.1 h with ⟨(kind : r.kind ≠ 1), rfl⟩ | ⟨(kind : ¬r.kind ≠ 1), h⟩
  · exact decideCue_invalid (by simp [CueRecord.invalid, kind])
  rcases firstThat_cons.1 h with ⟨(length : r.textLength = 0 ∨ 96 < r.textLength), rfl⟩ |
    ⟨(length : ¬(r.textLength = 0 ∨ 96 < r.textLength)), h⟩
  · exact decideCue_invalid (by simp [CueRecord.invalid, kind, length])
  rcases firstThat_cons.1 h with ⟨(many : 3 < r.text.count 0x0A), rfl⟩ | ⟨(few : ¬3 < r.text.count 0x0A), h⟩
  · have lines : 4 < (textLines r.text).length := by omega
    exact decideCue_invalid (by simp [CueRecord.invalid, kind, length, lines])
  have lines : ¬4 < (textLines r.text).length := by omega
  rcases firstThat_cons.1 h with ⟨(anchor : 2 < r.anchor), rfl⟩ | ⟨(anchor : ¬2 < r.anchor), h⟩
  · exact decideCue_invalid (by simp [CueRecord.invalid, kind, length, lines, anchor])
  have labels : (r.start.outOfRange x.settings.rate.code || r.stop.outOfRange x.settings.rate.code) = true ↔
      badLabel x.settings.rate.code r.start ∨ badLabel x.settings.rate.code r.stop := by
    rw [Bool.or_eq_true, outOfRange_iff, outOfRange_iff]
  rcases firstThat_cons.1 h with ⟨label, rfl⟩ | ⟨label, h⟩
  · exact decideCue_invalid (by simp [CueRecord.invalid, kind, length, lines, anchor, labels.2 label])
  have valid : r.invalid x.settings.rate.code = none := by
    simp [CueRecord.invalid, kind, length, lines, anchor, mt labels.1 label]
  rw [decideCue_valid valid]
  rcases firstThat_cons.1 h with ⟨order, rfl⟩ | ⟨order, h⟩
  · exact if_pos order
  rcases firstThat_cons.1 h with ⟨before, rfl⟩ | ⟨before, h⟩
  · exact (if_neg order).trans (if_pos before)
  have limit := beyondLimit_relative_iff x.settings.rate r.stop
  rcases firstThat_cons.1 h with ⟨beyond, rfl⟩ | ⟨beyond, h⟩
  · exact (if_neg order).trans ((if_neg before).trans (if_pos (limit.2 beyond)))
  refine ((if_neg order).trans ((if_neg before).trans (if_neg (mt limit.1 beyond)))).trans ?_
  rw [lateCheckCue_eq]
  rcases firstThat_cons.1 h with ⟨late, rfl⟩ | ⟨late, h⟩
  · exact if_pos late
  refine (if_neg late).trans ?_
  have duration : max (r.start.frames x.settings.rate.code x.settings.rate.dropFrame - x.settings.rate.origin) x.openStart ≤
      r.stop.frames x.settings.rate.code x.settings.rate.dropFrame - x.settings.rate.origin := by
    rw [not_and_or, not_or] at late
    omega
  rcases firstThat_cons.1 h with ⟨pool, rfl⟩ | ⟨pool, h⟩
  · exact extendCue_pool duration pool n r _ _
  rcases firstThat_cons.1 h with ⟨⟨room, rows⟩, rfl⟩ | ⟨-, h⟩
  · obtain ⟨number, placed⟩ := extendCue_placed duration pool room (hgood rfl) n r _ _
    exact placed.trans (placeCue_noRoom rows n _ number _)
  · cases h

/-! ## Captured cue records -/

theorem captureCue_taken {d : Device} {t : Slot} {x : TextTrack} (hp : (d.track t).parityOk = true)
    (hb : (d.track t).body = .text x) (hs : (d.track t).state = .running ∨ (d.track t).state = .stalled) (n : Nat)
    (r : CueRecord) : d.captureCue t n r = d.takeCue t x n r := by
  rcases hs with hs | hs <;>
    simp [Device.captureCue, TrackContext.text_eq_some.2 hb, Device.readingTrack_good hp, hs]

theorem captureCue_draining {d : Device} {t : Slot} {x : TextTrack} (hp : (d.track t).parityOk = true)
    (hb : (d.track t).body = .text x) (hs : (d.track t).state = .draining) (n : Nat) (r : CueRecord) :
    d.captureCue t n r = d.dropCue t x false (CueDrop.plain .draining .none n r) := by
  simp [Device.captureCue, TrackContext.text_eq_some.2 hb, Device.readingTrack_good hp, hs]

theorem captureCue_faulted {d : Device} {t : Slot} {x : TextTrack} (hp : (d.track t).parityOk = true)
    (hb : (d.track t).body = .text x) (hs : (d.track t).state = .faulted) (n : Nat) (r : CueRecord) :
    d.captureCue t n r = d := by
  simp [Device.captureCue, TrackContext.text_eq_some.2 hb, Device.readingTrack_good hp, hs]

theorem partialCueWrite_eq {d : Device} {t : Slot} {x : TextTrack} (hp : (d.track t).parityOk = true)
    (hb : (d.track t).body = .text x) :
    d.partialCueWrite t =
      if (d.track t).state.consumes then
        d.setText t { x with counters := { x.counters with partialWrites := satAdd x.counters.partialWrites 1 } }
      else d := by
  simp [Device.partialCueWrite, TrackContext.text_eq_some.2 hb, Device.readingTrack_good hp]

theorem dropCue_eq (d : Device) (t : Slot) (x : TextTrack) (adjusted : Bool) (drop : CueDrop) :
    d.dropCue t x adjusted drop = cueDropped d t x adjusted drop := rfl

/-- A captured cue record is handed to its track (R6, R71). -/
theorem exec_captureCue {s : State} {id : Nat} {addr : Addr} {beats : List Beat} {m : WindowMatch} {t : Slot} {n : Nat}
    (h : Capturing s.dev addr beats m t n) (hk : m.window.kind = .textIntake) :
    exec (.upstreamWrite id addr beats) s = .next { s with dev := Device.settle (Device.offerHead
      ((Joined s.dev id addr beats m).captureCue t n (parseCue (beatsBytes beats)))) } := by
  obtain ⟨reset, writing, slot, whole, rfl, unheld, -⟩ := h
  rw [exec_intakeWrite reset writing slot (.inl hk) (firstHeld_of_whole whole unheld)]
  simp only [Device.intakeWrite, hk, whole, if_true]

/-- A partial write into a TEXT intake ring is handed to its track (R6, R72). -/
theorem exec_partialCueWrite {s : State} {id : Nat} {addr : Addr} {beats : List Beat} {m : WindowMatch} {t : Slot}
    (h : WritingPart s.dev addr beats m t) (hk : m.window.kind = .textIntake) :
    exec (.upstreamWrite id addr beats) s = .next { s with dev := Device.settle (Device.offerHead
      ((Joined s.dev id addr beats m).partialCueWrite t)) } := by
  obtain ⟨reset, writing, slot, part, unheld, -⟩ := h
  rw [exec_intakeWrite reset writing slot (.inl hk) (firstHeld_of_part (burstOk_pos writing.1) unheld)]
  simp only [Device.intakeWrite, hk, part]
  rfl

end Sys2Proof.Machine

section
open Sys2Proof Sys2Proof.Machine Sys2Proof.Safety

/-- Settles O49: the late check, the first reason that applies, and what DRAINING, FAULTED and a partial write make of a record. -/
theorem cuesAreDroppedInOrder : Obligations.CuesAreDroppedInOrder := by
  refine ⟨?late, ?captured, ?counted⟩
  case late =>
    intro d t x n r adjusted start stop
    rw [lateCheckCue_eq]
    refine ⟨fun early => ?_, fun late ends shift => ?_, fun late dropped => ⟨_, if_pos ⟨late, dropped⟩, rfl, rfl, rfl, rfl⟩⟩
    · rw [if_neg (by omega), decide_eq_false (by omega), max_eq_left early]
    · rw [if_neg (by simp [shift, ends]), decide_eq_true late, max_eq_right late.le]
  case captured =>
    rintro s id addr beats m t n x _ h hk hb rfl
    have he := exec_captureCue (id := id) h hk
    obtain ⟨-, -, -, -, -, -, hp⟩ := h
    refine ⟨fun hs before applies adjusted drop after split passed failed good => ?_, fun hs => ?_, fun hs => ?_⟩
    · have first : firstThat Prod.fst (cueDrops (Joined s.dev id addr beats m) t x n (parseCue (beatsBytes beats))) =
          some (applies, adjusted, drop) := (congrArg (firstThat Prod.fst) split).trans (firstThat_split passed failed)
      rw [he, captureCue_taken (d := Joined s.dev id addr beats m) hp hb hs, Device.takeCue,
        decideCue_dropped first fun hr => damagedActive_eq_none (good hr)]
      rfl
    · rw [he, captureCue_draining (d := Joined s.dev id addr beats m) hp hb hs, dropCue_eq]
      rfl
    · rw [he, captureCue_faulted (d := Joined s.dev id addr beats m) hp hb hs]
  case counted =>
    intro s id addr beats m t x h hk hb
    have he := exec_partialCueWrite (id := id) h hk
    obtain ⟨-, -, -, -, -, hp⟩ := h
    rw [partialCueWrite_eq (d := Joined s.dev id addr beats m) hp hb] at he
    refine ⟨fun hs => he.trans ?_, fun hs => he.trans ?_⟩
    · have acts : (s.dev.track t).state.consumes = true := by rcases hs with hs | hs | hs <;> rw [hs] <;> rfl
      exact congrArg (fun d : Device => Host.Outcome.next { s with dev := d.offerHead.settle }) (if_pos acts)
    · have rests : ¬(s.dev.track t).state.consumes = true := by rw [hs]; exact nofun
      exact congrArg (fun d : Device => Host.Outcome.next { s with dev := d.offerHead.settle }) (if_neg rests)

end
end

section

/-! PROOFS. The drops of captured clip records in the order of the intake steps, COLLISION and RANGE included (spec 07). -/

namespace Sys2Proof.Machine

open Sys2Proof Sys2Proof.Safety

/-! ## The schedule as a list (R122) -/

theorem schedule_inOrder (d : Device) (t : Slot) :
    InOrder (fun a b : Nat × ClipEntry => decide (a.2.start < b.2.start)) (d.schedule t) :=
  InOrder.foldl_insertBy orderedBy_start _ .nil

theorem schedule_perm (d : Device) (t : Slot) : (d.schedule t).Perm (d.trackClips t) := by
  have perm := perm_foldl_insertBy (before := fun a b : Nat × ClipEntry => decide (a.2.start < b.2.start)) (d.trackClips t) []
  rwa [List.append_nil] at perm

theorem schedule_distinct (d : Device) (t : Slot) : (d.schedule t).Pairwise fun a b => a.1 ≠ b.1 :=
  ((schedule_perm d t).pairwise_iff fun h => h.symm).2
    (((pairwise_poolEntries 0 _).filter _).imp fun h => h.ne)

/-- The clips of a list end before the next ones begin. -/
def Chained (l : List (Nat × ClipEntry)) : Prop :=
  (∀ q ∈ l, q.2.start < q.2.stop) ∧ l.Pairwise fun a b => a.2.stop ≤ b.2.start

theorem Chained.sublist {l m : List (Nat × ClipEntry)} (h : Chained l) (hm : m.Sublist l) : Chained m :=
  ⟨fun q hq => h.1 q (hm.subset hq), h.2.sublist hm⟩

theorem Chained.tail {q : Nat × ClipEntry} {l : List (Nat × ClipEntry)} (h : Chained (q :: l)) : Chained l :=
  h.sublist (List.sublist_cons_self q l)

/-- The clips of a sound schedule stand one behind the other. -/
theorem schedule_chained {d : Device} (h : ScheduleSound d) (t : Slot) : Chained (d.schedule t) := by
  obtain ⟨lasts, apart⟩ := h
  refine ⟨fun q hq => lasts q.1 q.2 (Device.mem_schedule.1 hq).1, ?_⟩
  refine List.Pairwise.imp_of_mem (fun {a b} ha hb hab => ?_) ((schedule_inOrder d t).and (schedule_distinct d t))
  obtain ⟨order, ne⟩ := hab
  obtain ⟨ha, ta⟩ := Device.mem_schedule.1 ha
  obtain ⟨hb, tb⟩ := Device.mem_schedule.1 hb
  rcases apart a.1 b.1 a.2 b.2 ne ha hb (ta.trans tb.symm) with h | h
  · exact h
  · have := lasts b.1 b.2 hb
    have := of_decide_eq_false order
    omega

/-! ## The clip's own shift (R122 steps 1 and 2) -/

/-- The clip after its own shift starts where the clips of no later start end, where they end past the tick it asked for. -/
theorem ownShift_eq {clips : List (Nat × ClipEntry)} (hc : Chained clips) (e : ClipEntry) {start : Nat}
    (hmin : e.start ≤ start) (hpast : ∀ q ∈ clips, q.2.start ≤ e.start → q.2.stop ≤ start)
    (hat : start = e.start ∨ ∃ q ∈ clips, q.2.start ≤ e.start ∧ q.2.stop = start) :
    ownShift clips e = if start = e.start then e else e.movedTo start := by
  have member : ∀ q, q ∈ clips.filter (fun c => decide (c.2.start ≤ e.start)) ↔ q ∈ clips ∧ q.2.start ≤ e.start := fun q => by
    rw [List.mem_filter, decide_eq_true_eq]
  have chained := hc.sublist (List.filter_sublist (p := fun c => decide (c.2.start ≤ e.start)))
  unfold ownShift
  generalize clips.filter (fun c => decide (c.2.start ≤ e.start)) = earlier at member chained ⊢
  cases hl : earlier.getLast? with
  | none =>
    rw [List.getLast?_eq_none_iff] at hl
    rcases hat with h | ⟨q, hq, hs, -⟩
    · rw [if_pos h]
    · have none := (member q).2 ⟨hq, hs⟩
      rw [hl] at none
      cases none
  | some p =>
    obtain ⟨front, rfl⟩ := List.getLast?_eq_some_iff.1 hl
    obtain ⟨hp, hps⟩ := (member p).1 (by simp)
    have bound := hpast p hp hps
    have latest : ∀ q ∈ front ++ [p], q.2.stop ≤ p.2.stop := fun q hq => by
      rcases List.mem_append.1 hq with hq | hq
      · have before := (List.pairwise_append.1 chained.2).2.2 q hq p (by simp)
        exact before.trans (chained.1 p (by simp)).le
      · rw [List.mem_singleton.1 hq]
    show (if e.start < p.2.stop then e.movedTo p.2.stop else e) = _
    rcases hat with rfl | ⟨q, hq, hs, rfl⟩
    · rw [if_neg (by omega), if_pos rfl]
    · have same := le_antisymm (latest q ((member q).2 ⟨hq, hs⟩)) bound
      by_cases h : q.2.stop = e.start
      · rw [if_neg (by omega), if_pos h]
      · rw [if_pos (by omega), if_neg h, same]

/-! ## The cascade (R122 step 3) -/

/-- The ticks that clips last together. -/
def lengths (clips : List (Nat × ClipEntry)) : Nat :=
  (clips.map fun q => q.2.stop - q.2.start).sum

theorem lengths_cons (q : Nat × ClipEntry) (l : List (Nat × ClipEntry)) :
    lengths (q :: l) = (q.2.stop - q.2.start) + lengths l := by
  simp [lengths]

/-- Behind a clip that the cascade does not reach, it reaches none. -/
theorem unreached {before : Nat} {earlier later : List (Nat × ClipEntry)} {q c : Nat × ClipEntry}
    (hc : Chained (q :: (earlier ++ c :: later))) (hq : before ≤ q.2.start) : before + lengths (q :: earlier) ≤ c.2.start := by
  induction earlier generalizing before q with
  | nil =>
    have := hc.1 q (by simp)
    have := List.rel_of_pairwise_cons hc.2 (a' := c) (by simp)
    simp only [lengths, List.map_cons, List.map_nil, List.sum_cons, List.sum_nil]
    omega
  | cons p earlier ih =>
    have := hc.1 q (by simp)
    have := List.rel_of_pairwise_cons hc.2 (a' := p) (by simp)
    have rest := ih (before := before + (q.2.stop - q.2.start)) hc.tail (by omega)
    rw [lengths_cons] at rest ⊢
    rw [lengths_cons]
    omega

/-- A clip that the cascade reaches stands behind clips that it reaches. -/
theorem reached_head {before : Nat} {earlier later : List (Nat × ClipEntry)} {q c : Nat × ClipEntry}
    (hc : Chained (q :: (earlier ++ c :: later))) (h : c.2.start < before + lengths (q :: earlier)) : q.2.start < before :=
  not_le.1 fun hq => absurd (unreached hc hq) (not_le.2 h)

theorem cascade_cons_waiting {before i : Nat} {y : ClipEntry} (hb : y.start < before) (hw : y.state = .waiting)
    (rest : List (Nat × ClipEntry)) :
    cascade before ((i, y) :: rest) =
      (cascade (before + (y.stop - y.start)) rest).map fun moved => (i, y.movedTo before) :: moved := by
  rw [cascade, if_pos hb, if_pos hw]
  show _ = (cascade (y.movedTo before).stop rest).map _
  cases cascade (y.movedTo before).stop rest <;> rfl

/-- The cascade stops at the first clip that it reaches and that is not WAITING. -/
theorem cascade_collides {before : Nat} {earlier later : List (Nat × ClipEntry)} {i : Nat} {c : ClipEntry}
    (hc : Chained (earlier ++ (i, c) :: later)) (hw : ∀ q ∈ earlier, q.2.state = .waiting) (hs : c.state ≠ .waiting)
    (h : c.start < before + lengths earlier) : cascade before (earlier ++ (i, c) :: later) = .error c := by
  induction earlier generalizing before with
  | nil =>
    rw [List.nil_append, cascade, if_pos (show c.start < before from h), if_neg hs]
  | cons q earlier ih =>
    have reached := reached_head hc h
    rw [lengths_cons, ← Nat.add_assoc] at h
    rw [List.cons_append, cascade_cons_waiting reached (hw q (by simp)),
      ih hc.tail (fun p hp => hw p (List.mem_cons_of_mem _ hp)) h]
    rfl

/-- Where every clip that the cascade reaches is WAITING, it moves each of them behind those before it. -/
theorem cascade_moves {before : Nat} {clips : List (Nat × ClipEntry)} (hc : Chained clips)
    (hw : ∀ earlier i c later, clips = earlier ++ (i, c) :: later → c.start < before + lengths earlier → c.state = .waiting) :
    ∃ moved, cascade before clips = .ok moved ∧ ∀ earlier i c later, clips = earlier ++ (i, c) :: later →
      c.start < before + lengths earlier → (i, c.movedTo (before + lengths earlier)) ∈ moved := by
  induction clips generalizing before with
  | nil => exact ⟨[], rfl, fun earlier i c later h => by simp at h⟩
  | cons q rest ih =>
    by_cases reached : q.2.start < before
    · have waiting := hw [] q.1 q.2 rest rfl reached
      obtain ⟨moved, ok, moves⟩ := ih (before := before + (q.2.stop - q.2.start)) hc.tail fun earlier i c later split h =>
        hw (q :: earlier) i c later (by rw [split]; rfl) (by rw [lengths_cons]; omega)
      refine ⟨(q.1, q.2.movedTo before) :: moved, ?_, fun earlier i c later split h => ?_⟩
      · rw [cascade_cons_waiting reached waiting, ok]
        rfl
      · rcases earlier with _ | ⟨p, earlier⟩
        · cases split
          exact List.mem_cons_self
        · cases split
          rw [lengths_cons, ← Nat.add_assoc] at h ⊢
          exact List.mem_cons_of_mem _ (moves earlier i c later rfl h)
    · refine ⟨[], ?_, fun earlier i c later split h => ?_⟩
      · rw [cascade, if_neg reached]
      · rcases earlier with _ | ⟨p, earlier⟩
        · cases split
          exact absurd h reached
        · cases split
          exact absurd (reached_head hc h) reached

/-! ## The placement (R122) -/

theorem movedTo_self_stop (e : ClipEntry) {start : Nat} {length : Nat} (h : e.stop = e.start + length) :
    (if start = e.start then e else e.movedTo start).stop = start + length := by
  split
  next hs => rw [h, hs]
  next => rw [ClipEntry.movedTo, h, Nat.add_sub_cancel_left]

section
variable {clips : List (Nat × ClipEntry)} {e : ClipEntry} {start length tail : Nat}

theorem placeClip_collision (hy : ownShift clips e = if start = e.start then e else e.movedTo start)
    (he : e.stop = e.start + length) {b : ClipEntry}
    (h : cascade (start + length) (clips.filter fun c => decide (e.start < c.2.start)) = .error b) :
    placeClip clips e tail = .collision b := by
  simp only [placeClip, hy, movedTo_self_stop e he, h]

theorem placeClip_outOfRange (hy : ownShift clips e = if start = e.start then e else e.movedTo start)
    (he : e.stop = e.start + length) {moved : List (Nat × ClipEntry)}
    (h : cascade (start + length) (clips.filter fun c => decide (e.start < c.2.start)) = .ok moved)
    (hr : start ≠ e.start ∧ 4151263199 < start + length + tail ∨ ∃ m ∈ moved, 4151263199 < m.2.stop + tail) :
    placeClip clips e tail = .outOfRange := by
  have past : (((if start = e.start then e else e.movedTo start).shifted && decide (4151263199 < start + length + tail)) ||
      moved.any fun m => decide (4151263199 < m.2.stop + tail)) = true := by
    rw [Bool.or_eq_true, List.any_eq_true]
    refine hr.imp (fun ⟨shifted, limit⟩ => ?_) fun ⟨m, hm, limit⟩ => ⟨m, hm, decide_eq_true limit⟩
    rw [if_neg shifted, decide_eq_true limit]
    rfl
  simp only [placeClip, hy, movedTo_self_stop e he, h]
  exact if_pos past

end

/-! ## The steps of clip intake -/

section
variable {d : Device} {t : Slot} {x : ClipTrack} {n : Nat} {r : ClipRecord}

theorem requested_eq (r : ClipRecord) (x : ClipTrack) : r.requested x.settings = wantedTick x r :=
  congrArg (ticks x.settings.rate.code) (Int.toNat_sub _ _)

theorem decideClip_invalid {detail : DropDetail} (h : r.invalid = some detail) :
    decideClip d t x n r = .dropped false (ClipDrop.plain .malformed detail n r) := by
  simp [decideClip, h]

theorem decideClip_badTimes (h : r.invalid = none) {detail : DropDetail} (ht : r.badTimes x.settings = some detail) :
    decideClip d t x n r = .dropped (!r.start.outOfRange x.settings.rate.code && r.isAdjusted x.settings)
      (ClipDrop.plain .malformed detail n r) := by
  simp [decideClip, h, ht]

theorem decideClip_late (h : r.invalid = none) (ht : r.badTimes x.settings = none)
    (hl : r.requested x.settings < x.cursor) :
    decideClip d t x n r = .dropped (r.isAdjusted x.settings)
      { ClipDrop.plain .late .none n r with
        times := some (r.requested x.settings, r.requested x.settings + r.duration)
        cursor := some x.cursor } := by
  simp [decideClip, h, ht, ClipRecord.entry, hl]

theorem decideClip_pool (h : r.invalid = none) (ht : r.badTimes x.settings = none)
    (hl : ¬r.requested x.settings < x.cursor)
    (hp : x.settings.reserve ≤ (d.trackClips t).length ∧ 64 - d.clipsInUse ≤ d.clipsOwed t) :
    decideClip d t x n r = .dropped (r.isAdjusted x.settings)
      { ClipDrop.plain .pool .none n r with
        times := some (r.requested x.settings, r.requested x.settings + r.duration)
        pool := some (d.clipFigures t x.settings.reserve) } := by
  have none : d.allocateClip t x.settings.reserve = none := if_neg (by
    rintro (held | owed)
    · exact absurd held (not_lt.2 hp.1)
    · exact absurd owed (not_lt.2 hp.2))
  simp [decideClip, h, ht, ClipRecord.entry, hl, none]

theorem decideClip_scheduled (h : r.invalid = none) (ht : r.badTimes x.settings = none)
    (hl : ¬r.requested x.settings < x.cursor)
    (hp : ¬(x.settings.reserve ≤ (d.trackClips t).length ∧ 64 - d.clipsInUse ≤ d.clipsOwed t)) (hroom : d.clipsInUse < 64)
    (hgood : d.damagedClip t = none) : ∃ number, decideClip d t x n r = scheduleClip d t x n r number := by
  obtain ⟨number, free⟩ := lowestFree_isSome 0 0 d.clipPool.toList (hroom.trans_eq d.clipPool.length_toList.symm)
  have some : d.allocateClip t x.settings.reserve = some number := by
    refine (if_pos ?_).trans free
    rw [← not_le, ← not_le, ← not_and_or]
    exact hp
  exact ⟨number, by simp [decideClip, h, ht, ClipRecord.entry, hl, some, hgood]⟩

theorem duckModeOf_eq_none_iff {code : Nat} : duckModeOf code = none ↔ 3 < code := by
  unfold duckModeOf
  repeat' split
  all_goals simp; omega

theorem duckModeOf_fixed_iff {code : Nat} : duckModeOf code = some .fixed ↔ code = 0 := by
  unfold duckModeOf
  repeat' split
  all_goals simp [*]

theorem invalid_eq_none (kind : ¬r.kind ≠ 2) (duration : ¬(r.duration = 0 ∨ 4800000 < r.duration))
    (address : ¬(r.address.toNat % 2 = 1 ∨ 1099511627776 < r.address.toNat + 2 * r.duration))
    (level : ¬(Config.unity < r.level ∧ r.level ≠ defaultLevelCode)) (mode : ¬3 < r.mode)
    (gain : ¬(r.mode = 0 ∧ Config.unity < r.fixedGain)) : r.invalid = none := by
  simp [ClipRecord.invalid, kind, duration, address, level, duckModeOf_eq_none_iff, mode, duckModeOf_fixed_iff, gain]

theorem badTimes_eq (r : ClipRecord) (x : ClipTrack) :
    r.badTimes x.settings =
      if r.start.outOfRange x.settings.rate.code then some .timecode
      else if r.start.frames x.settings.rate.code x.settings.rate.dropFrame < x.settings.rate.origin then some .beforeOrigin
      else if 4151263199 < wantedTick x r + r.duration + 48 * x.settings.tail then some .timecode
      else none := by
  have early : x.settings.rate.relative r.start < 0 ↔
      r.start.frames x.settings.rate.code x.settings.rate.dropFrame < x.settings.rate.origin := by
    rw [RateSettings.relative]
    omega
  have tail : x.settings.tailTicks = 48 * x.settings.tail := Nat.mul_comm _ _
  simp only [ClipRecord.badTimes, early, requested_eq, tail, Config.timelineLimit]

/-- The first reason of R117 to R121 that applies to a captured clip is the reason for which the intake steps drop it. -/
theorem decideClip_dropped {q : Prop × Bool × ClipDrop} (h : firstThat Prod.fst (clipDrops d t x n r) = some q) :
    decideClip d t x n r = .dropped q.2.1 q.2.2 := by
  have requested := requested_eq r x
  unfold clipDrops at h
  rcases firstThat_cons.1 h with ⟨(kind : r.kind ≠ 2), rfl⟩ | ⟨(kind : ¬r.kind ≠ 2), h⟩
  · exact decideClip_invalid (by simp [ClipRecord.invalid, kind])
  rcases firstThat_cons.1 h with ⟨(duration : r.duration = 0 ∨ 4800000 < r.duration), rfl⟩ |
    ⟨(duration : ¬(r.duration = 0 ∨ 4800000 < r.duration)), h⟩
  · exact decideClip_invalid (by simp [ClipRecord.invalid, kind, duration])
  rcases firstThat_cons.1 h with ⟨(address : r.address.toNat % 2 = 1 ∨ 1099511627776 < r.address.toNat + 2 * r.duration), rfl⟩ |
    ⟨(address : ¬(r.address.toNat % 2 = 1 ∨ 1099511627776 < r.address.toNat + 2 * r.duration)), h⟩
  · exact decideClip_invalid (by simp [ClipRecord.invalid, kind, duration, address])
  rcases firstThat_cons.1 h with ⟨(level : Config.unity < r.level ∧ r.level ≠ defaultLevelCode), rfl⟩ |
    ⟨(level : ¬(Config.unity < r.level ∧ r.level ≠ defaultLevelCode)), h⟩
  · exact decideClip_invalid (by simp [ClipRecord.invalid, kind, duration, address, level])
  rcases firstThat_cons.1 h with ⟨(mode : 3 < r.mode), rfl⟩ | ⟨(mode : ¬3 < r.mode), h⟩
  · exact decideClip_invalid (by simp [ClipRecord.invalid, kind, duration, address, level, duckModeOf_eq_none_iff, mode])
  rcases firstThat_cons.1 h with ⟨(gain : r.mode = 0 ∧ Config.unity < r.fixedGain), rfl⟩ |
    ⟨(gain : ¬(r.mode = 0 ∧ Config.unity < r.fixedGain)), h⟩
  · exact decideClip_invalid (by
      simp [ClipRecord.invalid, kind, duration, address, level, duckModeOf_eq_none_iff, duckModeOf_fixed_iff, gain])
  have valid := invalid_eq_none kind duration address level mode gain
  rcases firstThat_cons.1 h with ⟨label, rfl⟩ | ⟨label, h⟩
  · have range := outOfRange_iff.2 label
    rw [decideClip_badTimes valid ((badTimes_eq r x).trans (if_pos range)), range]
    rfl
  have range : r.start.outOfRange x.settings.rate.code = false := Bool.eq_false_iff.2 (mt outOfRange_iff.1 label)
  have later := (badTimes_eq r x).trans (if_neg (mt outOfRange_iff.1 label))
  rcases firstThat_cons.1 h with ⟨early, rfl⟩ | ⟨early, h⟩
  · rw [decideClip_badTimes valid (later.trans (if_pos early)), range]
    rfl
  rcases firstThat_cons.1 h with ⟨beyond, rfl⟩ | ⟨beyond, h⟩
  · rw [decideClip_badTimes valid (later.trans ((if_neg early).trans (if_pos beyond))), range]
    rfl
  have times : r.badTimes x.settings = none := later.trans ((if_neg early).trans (if_neg beyond))
  rcases firstThat_cons.1 h with ⟨late, rfl⟩ | ⟨late, h⟩
  · rw [decideClip_late valid times (requested.trans_lt late), requested]
    rfl
  rcases firstThat_cons.1 h with ⟨pool, rfl⟩ | ⟨-, h⟩
  · rw [decideClip_pool valid times (fun hl => late (requested.symm.trans_lt hl)) pool, requested]
    rfl
  · cases h

/-- A clip to which no reason of R117 to R121 applies is scheduled. -/
theorem decideClip_passed (h : ∀ q ∈ clipDrops d t x n r, ¬q.1) (hroom : d.clipsInUse < 64)
    (hgood : d.damagedClip t = none) : ∃ number, decideClip d t x n r = scheduleClip d t x n r number := by
  simp only [clipDrops, List.forall_mem_cons] at h
  obtain ⟨kind, duration, address, level, mode, gain, label, early, beyond, late, pool, -⟩ := h
  have valid := invalid_eq_none kind duration address level mode gain
  have times : r.badTimes x.settings = none :=
    (badTimes_eq r x).trans ((if_neg (mt outOfRange_iff.1 label)).trans ((if_neg early).trans (if_neg beyond)))
  exact decideClip_scheduled valid times (fun hl => late ((requested_eq r x).symm.trans_lt hl)) pool hroom hgood

theorem scheduleClip_collision {number : Nat} {b : ClipEntry}
    (h : placeClip (d.schedule t) (r.entry x.settings t n) x.settings.tailTicks = .collision b) :
    scheduleClip d t x n r number = .dropped (r.isAdjusted x.settings)
      ⟨.late, .collision, n, r.hostId, some (wantedTick x r, wantedTick x r + r.duration), some x.cursor,
        some (b.hostId, b.start), none⟩ := by
  simp only [scheduleClip, h]
  rw [← requested_eq]
  rfl

theorem scheduleClip_outOfRange {number : Nat}
    (h : placeClip (d.schedule t) (r.entry x.settings t n) x.settings.tailTicks = .outOfRange) :
    scheduleClip d t x n r number = .dropped (r.isAdjusted x.settings)
      ⟨.malformed, .range, n, r.hostId, some (wantedTick x r, wantedTick x r + r.duration), none, none, none⟩ := by
  simp only [scheduleClip, h]
  rw [← requested_eq]
  rfl

theorem damagedClip_eq_none (h : ∀ q ∈ d.trackClips t, q.2.parityOk = true) : d.damagedClip t = none := by
  rw [Device.damagedClip, Option.map_eq_none_iff, List.find?_eq_none]
  intro q hq
  simp [h q hq]

/-! ## Captured clip records -/

theorem captureClip_taken (hp : (d.track t).parityOk = true) (hb : (d.track t).body = .description x)
    (hs : (d.track t).state = .running ∨ (d.track t).state = .degraded) : d.captureClip t n r = d.takeClip t x n r := by
  rcases hs with hs | hs <;>
    simp [Device.captureClip, TrackContext.clips_eq_some.2 hb, Device.readingTrack_good hp, hs]

theorem captureClip_draining (hp : (d.track t).parityOk = true) (hb : (d.track t).body = .description x)
    (hs : (d.track t).state = .draining) :
    d.captureClip t n r = d.dropClip t x false (ClipDrop.plain .draining .none n r) := by
  simp [Device.captureClip, TrackContext.clips_eq_some.2 hb, Device.readingTrack_good hp, hs]

theorem captureClip_faulted (hp : (d.track t).parityOk = true) (hb : (d.track t).body = .description x)
    (hs : (d.track t).state = .faulted) : d.captureClip t n r = d := by
  simp [Device.captureClip, TrackContext.clips_eq_some.2 hb, Device.readingTrack_good hp, hs]

theorem takeClip_dropped {adjusted : Bool} {drop : ClipDrop} (h : decideClip d t x n r = .dropped adjusted drop) :
    d.takeClip t x n r = clipDropped d t x adjusted drop := by
  simp only [Device.takeClip, h]
  rfl

end

/-- A captured clip record is handed to its track (R6, R115). -/
theorem exec_captureClip {s : State} {id : Nat} {addr : Addr} {beats : List Beat} {m : WindowMatch} {t : Slot} {n : Nat}
    (h : Capturing s.dev addr beats m t n) (hk : m.window.kind = .clipIntake) :
    exec (.upstreamWrite id addr beats) s = .next { s with dev := Device.settle (Device.offerHead
      ((Joined s.dev id addr beats m).captureClip t n (parseClip (beatsBytes beats)))) } := by
  obtain ⟨reset, writing, slot, whole, rfl, unheld, -⟩ := h
  rw [exec_intakeWrite reset writing slot (.inr hk) (firstHeld_of_whole whole unheld)]
  simp only [Device.intakeWrite, hk, whole, if_true]

/-- A partial write into a CLIP intake ring is handed to its track (R6, R115). -/
theorem exec_partialClipWrite {s : State} {id : Nat} {addr : Addr} {beats : List Beat} {m : WindowMatch} {t : Slot}
    (h : WritingPart s.dev addr beats m t) (hk : m.window.kind = .clipIntake) :
    exec (.upstreamWrite id addr beats) s = .next { s with dev := Device.settle (Device.offerHead
      ((Joined s.dev id addr beats m).partialClipWrite t)) } := by
  obtain ⟨reset, writing, slot, part, unheld, -⟩ := h
  rw [exec_intakeWrite reset writing slot (.inr hk) (firstHeld_of_part (burstOk_pos writing.1) unheld)]
  simp only [Device.intakeWrite, hk, part]
  rfl

theorem partialClipWrite_eq {d : Device} {t : Slot} {x : ClipTrack} (hp : (d.track t).parityOk = true)
    (hb : (d.track t).body = .description x) :
    d.partialClipWrite t =
      if (d.track t).state.mixes then
        d.setClips t { x with counters := { x.counters with partialWrites := satAdd x.counters.partialWrites 1 } }
      else d := by
  simp [Device.partialClipWrite, TrackContext.clips_eq_some.2 hb, Device.readingTrack_good hp]

/-- What R122 says of a clip about to be placed: where it starts after its own shift, and the schedule behind it. -/
structure Placing (d : Device) (t : Slot) (x : ClipTrack) (r : ClipRecord) (start : Nat) (after : List (Nat × ClipEntry)) :
    Prop where
  sound : ScheduleSound d
  start_le : wantedTick x r ≤ start
  past : ∀ q ∈ d.trackClips t, q.2.start ≤ wantedTick x r → q.2.stop ≤ start
  attained : start = wantedTick x r ∨ ∃ q ∈ d.trackClips t, q.2.start ≤ wantedTick x r ∧ q.2.stop = start
  after_eq : after = (d.schedule t).filter fun q => decide (wantedTick x r < q.2.start)

section
variable {d : Device} {t : Slot} {x : ClipTrack} {r : ClipRecord} {start n : Nat} {after : List (Nat × ClipEntry)}

theorem Placing.ownShift (h : Placing d t x r start after) :
    ownShift (d.schedule t) (r.entry x.settings t n) =
      if start = (r.entry x.settings t n).start then r.entry x.settings t n else (r.entry x.settings t n).movedTo start := by
  have requested : (r.entry x.settings t n).start = wantedTick x r := requested_eq r x
  have mem : ∀ q, q ∈ d.schedule t ↔ q ∈ d.trackClips t := fun q => (schedule_perm d t).mem_iff
  refine ownShift_eq (schedule_chained h.sound t) _ (requested.trans_le h.start_le) (fun q hq hs => ?_) ?_
  · exact h.past q ((mem q).1 hq) (hs.trans_eq requested)
  · refine h.attained.imp (fun e => e.trans requested.symm) fun ⟨q, hq, hs, he⟩ => ⟨q, (mem q).2 hq, ?_, he⟩
    exact hs.trans_eq requested.symm

theorem Placing.chained (h : Placing d t x r start after) : Chained after :=
  h.after_eq ▸ (schedule_chained h.sound t).sublist List.filter_sublist

theorem Placing.behind (h : Placing d t x r start after) :
    (d.schedule t).filter (fun c => decide ((r.entry x.settings t n).start < c.2.start)) = after := by
  have requested : (r.entry x.settings t n).start = wantedTick x r := requested_eq r x
  rw [h.after_eq, requested]

/-- A clip that would push one whose ramp has begun is dropped with COLLISION (R122, R127). -/
theorem Placing.collides (h : Placing d t x r start after) {earlier later : List (Nat × ClipEntry)} {i : Nat} {c : ClipEntry}
    (split : after = earlier ++ (i, c) :: later) (hw : ∀ q ∈ earlier, q.2.state = .waiting) (hs : c.state ≠ .waiting)
    (hc : c.start < start + r.duration + lengths earlier) (number : Nat) :
    scheduleClip d t x n r number = .dropped (r.isAdjusted x.settings)
      ⟨.late, .collision, n, r.hostId, some (wantedTick x r, wantedTick x r + r.duration), some x.cursor,
        some (c.hostId, c.start), none⟩ := by
  refine scheduleClip_collision (placeClip_collision h.ownShift rfl ?_)
  rw [h.behind, split]
  exact cascade_collides (split ▸ h.chained) hw hs hc

/-- A clip whose own shift or cascade passes the timeline limit is dropped with RANGE (R122, R127). -/
theorem Placing.passesLimit (h : Placing d t x r start after)
    (hw : ∀ earlier i c later, after = earlier ++ (i, c) :: later → c.start < start + r.duration + lengths earlier →
      c.state = .waiting)
    (hr : start ≠ wantedTick x r ∧ 4151263199 < start + r.duration + 48 * x.settings.tail ∨
      ∃ earlier i c later pushed, after = earlier ++ (i, c) :: later ∧ pushed = start + r.duration + lengths earlier ∧
        c.start < pushed ∧ 4151263199 < pushed + (c.stop - c.start) + 48 * x.settings.tail) (number : Nat) :
    scheduleClip d t x n r number = .dropped (r.isAdjusted x.settings)
      ⟨.malformed, .range, n, r.hostId, some (wantedTick x r, wantedTick x r + r.duration), none, none, none⟩ := by
  have requested : (r.entry x.settings t n).start = wantedTick x r := requested_eq r x
  have tail : x.settings.tailTicks = 48 * x.settings.tail := Nat.mul_comm _ _
  obtain ⟨moved, ok, moves⟩ := cascade_moves h.chained hw
  refine scheduleClip_outOfRange (placeClip_outOfRange h.ownShift rfl (h.behind ▸ ok) ?_)
  rw [requested, tail]
  refine hr.imp_right ?_
  rintro ⟨earlier, i, c, later, _, split, rfl, reached, limit⟩
  exact ⟨_, moves earlier i c later split reached, limit⟩

end

end Sys2Proof.Machine

section
open Sys2Proof Sys2Proof.Machine Sys2Proof.Safety

/-- Settles O50: the first reason that applies, the COLLISION or RANGE of a placement, and what DRAINING, FAULTED and a partial
write make of a record. -/
theorem clipsAreDroppedInOrder : Obligations.ClipsAreDroppedInOrder := by
  refine ⟨?late, ?captured, ?counted⟩
  case late =>
    intro d t x n r valid times late
    exact ⟨_, _, decideClip_late valid times late, rfl, rfl, rfl, rfl, rfl, rfl⟩
  case captured =>
    rintro s id addr beats m t n x _ h hk hb rfl
    have he := exec_captureClip (id := id) h hk
    obtain ⟨-, -, -, -, -, -, hp⟩ := h
    refine ⟨fun hs => ?taken, fun hs => ?draining, fun hs => ?faulted⟩
    case draining =>
      rw [he, captureClip_draining (d := Joined s.dev id addr beats m) hp hb hs]
      rfl
    case faulted => rw [he, captureClip_faulted (d := Joined s.dev id addr beats m) hp hb hs]
    case taken =>
      rw [captureClip_taken (d := Joined s.dev id addr beats m) hp hb hs] at he
      refine ⟨fun before applies adjusted drop after split passed failed => ?first, ?scheduled⟩
      case first =>
        have first : firstThat Prod.fst (clipDrops (Joined s.dev id addr beats m) t x n (parseClip (beatsBytes beats))) =
            some (applies, adjusted, drop) := (congrArg (firstThat Prod.fst) split).trans (firstThat_split passed failed)
        rw [he, takeClip_dropped (decideClip_dropped first)]
      case scheduled =>
        rintro passed room sound good _ start _ after rfl hstart past attained rfl after_eq
        obtain ⟨number, scheduled⟩ := decideClip_passed (d := Joined s.dev id addr beats m) passed room (damagedClip_eq_none good)
        have placing : Placing (Joined s.dev id addr beats m) t x (parseClip (beatsBytes beats)) start after :=
          ⟨sound, hstart, past, attained, after_eq⟩
        refine ⟨fun earlier i c later split waiting begun reached => ?_, fun waiting limit => ?_⟩
        · rw [he, takeClip_dropped (scheduled.trans (placing.collides split waiting begun reached number))]
          rfl
        · rw [he, takeClip_dropped (scheduled.trans (placing.passesLimit waiting limit number))]
          rfl
  case counted =>
    intro s id addr beats m t x h hk hb
    have he := exec_partialClipWrite (id := id) h hk
    obtain ⟨-, -, -, -, -, hp⟩ := h
    rw [partialClipWrite_eq (d := Joined s.dev id addr beats m) hp hb] at he
    refine ⟨fun hs => he.trans ?_, fun hs => he.trans ?_⟩
    · have acts : (s.dev.track t).state.mixes = true := by rcases hs with hs | hs | hs <;> rw [hs] <;> rfl
      exact congrArg (fun d : Device => Host.Outcome.next { s with dev := d.offerHead.settle }) (if_pos acts)
    · have rests : ¬(s.dev.track t).state.mixes = true := by rw [hs]; exact nofun
      exact congrArg (fun d : Device => Host.Outcome.next { s with dev := d.offerHead.settle }) (if_neg rests)

end
end

section

/-! PROOFS. What the processing of a burst leaves of the clip pool (spec 07 section 7.6, spec 09 section 9.3). -/

namespace Sys2Proof.Machine

open Sys2Proof Sys2Proof.Safety

/-- An entry of the clip pool that a lane works on. -/
def LaneWork.clip (w : LaneWork) (i : Nat) : Option ClipEntry :=
  (w.pool[i]?).join

/-- What the work of track `t`'s lane up to position `pos` leaves: the settings and the degraded mark, every clip of another
track, no clip but those that were there, with their times, and each of the track's own clips whose e + T is past `pos` (R125). -/
structure LaneWork.LeavesTo (t : Slot) (pos : Nat) (w v : LaneWork) : Prop where
  mark : v.x.degradedMark = w.x.degradedMark
  settings : v.x.settings = w.x.settings
  others : ∀ i c, w.clip i = some c → c.track ≠ t → v.clip i = some c
  comes : ∀ i c, v.clip i = some c → ∃ b, w.clip i = some b ∧ b.track = c.track ∧ b.start = c.start ∧ b.stop = c.stop
  stays : ∀ i b, w.clip i = some b → b.track = t → pos < b.stop + w.x.settings.tailTicks →
    ∃ c, v.clip i = some c ∧ c.track = t ∧ c.stop = b.stop

namespace LaneWork.LeavesTo

variable {t : Slot} {pos : Nat} {u v w : LaneWork}

theorem same (hm : v.x.degradedMark = w.x.degradedMark) (hs : v.x.settings = w.x.settings) (hp : v.pool = w.pool) :
    LeavesTo t pos w v := by
  have clip : v.clip = w.clip := by
    funext i
    rw [LaneWork.clip, hp, LaneWork.clip]
  exact ⟨hm, hs, fun i c h _ => clip ▸ h, fun i c h => ⟨c, clip ▸ h, rfl, rfl, rfl⟩, fun i b h ht _ => ⟨b, clip ▸ h, ht, rfl⟩⟩

theorem trans (h : LeavesTo t pos w v) (k : LeavesTo t pos v u) : LeavesTo t pos w u := by
  refine ⟨k.mark.trans h.mark, k.settings.trans h.settings, fun i c hc ht => k.others i c (h.others i c hc ht) ht,
    fun i c hc => ?_, fun i b hb ht hp => ?_⟩
  · obtain ⟨b, hb, track, start, stop⟩ := k.comes i c hc
    obtain ⟨a, ha, track', start', stop'⟩ := h.comes i b hb
    exact ⟨a, ha, track'.trans track, start'.trans start, stop'.trans stop⟩
  · obtain ⟨c, hc, track, stop⟩ := h.stays i b hb ht hp
    obtain ⟨a, ha, track', stop'⟩ := k.stays i c hc track (by rw [stop, h.settings]; exact hp)
    exact ⟨a, ha, track', stop'.trans stop⟩

end LaneWork.LeavesTo

theorem LaneWork.clip_lt {w : LaneWork} {i : Nat} {c : ClipEntry} (h : w.clip i = some c) : i < 64 := by
  by_contra out
  simp [LaneWork.clip, Vector.getElem?_eq_none (not_lt.1 out)] at h

theorem LaneWork.clip_set (pool : Vector (Option ClipEntry) 64) (x : ClipTrack) {i : Nat} (hi : i < 64)
    (o : Option ClipEntry) (j : Nat) :
    LaneWork.clip { x := x, pool := pool.setIfInBounds i o } j = if i = j then o else (pool[j]?).join := by
  unfold LaneWork.clip
  rw [Vector.getElem?_setIfInBounds]
  split <;> rfl

section
variable {t : Slot} {pos i : Nat} {v w : LaneWork} {b c : ClipEntry}

/-- An entry of the track is written over by itself in another clip state. -/
theorem LaneWork.LeavesTo.write (h : LaneWork.LeavesTo t pos w v) (hb : w.clip i = some b) (ht : b.track = t)
    {y : ClipTrack} (hm : y.degradedMark = v.x.degradedMark)
    (hs : y.settings = v.x.settings) (hc : c.track = b.track ∧ c.start = b.start ∧ c.stop = b.stop) :
    LaneWork.LeavesTo t pos w { x := y, pool := v.pool.setIfInBounds i (some c) } := by
  obtain ⟨track, start, stop⟩ := hc
  have clip := LaneWork.clip_set v.pool y (LaneWork.clip_lt hb) (some c)
  refine ⟨hm.trans h.mark, hs.trans h.settings, fun j a ha other => ?_, fun j a ha => ?_, fun j a ha own late => ?_⟩
  · rw [clip, if_neg]
    · exact h.others j a ha other
    · rintro rfl
      rw [hb, Option.some.injEq] at ha
      exact other (ha ▸ ht)
  · rw [clip] at ha
    split at ha
    next e =>
      subst e
      cases ha
      exact ⟨b, hb, track.symm, start.symm, stop.symm⟩
    next => exact h.comes j a ha
  · rw [clip]
    split
    next e =>
      subst e
      rw [hb, Option.some.injEq] at ha
      exact ⟨c, rfl, track.trans ht, ha ▸ stop⟩
    next => exact h.stays j a ha own late

/-- An entry of the track whose e + T is by `pos` is freed (R125). -/
theorem LaneWork.LeavesTo.free (h : LaneWork.LeavesTo t pos w v) (hb : w.clip i = some b) (ht : b.track = t)
    (hp : b.stop + w.x.settings.tailTicks ≤ pos) {y : ClipTrack} (hm : y.degradedMark = v.x.degradedMark)
    (hs : y.settings = v.x.settings) : LaneWork.LeavesTo t pos w { x := y, pool := v.pool.setIfInBounds i none } := by
  have clip := LaneWork.clip_set v.pool y (LaneWork.clip_lt hb) none
  refine ⟨hm.trans h.mark, hs.trans h.settings, fun j a ha other => ?_, fun j a ha => ?_, fun j a ha own late => ?_⟩
  · rw [clip, if_neg]
    · exact h.others j a ha other
    · rintro rfl
      rw [hb, Option.some.injEq] at ha
      exact other (ha ▸ ht)
  · rw [clip] at ha
    split at ha
    · cases ha
    · exact h.comes j a ha
  · rw [clip, if_neg]
    · exact h.stays j a ha own late
    · rintro rfl
      rw [hb, Option.some.injEq] at ha
      rw [← ha] at late
      omega

end

theorem mem_scheduleIn {t : Slot} {w : LaneWork} {i : Nat} {c : ClipEntry} :
    (i, c) ∈ scheduleIn t w.pool ↔ w.clip i = some c ∧ c.track = t := by
  simp [scheduleIn, mem_foldl_insertBy, mem_poolEntries, LaneWork.clip, Option.join_eq_some_iff]

/-- A step over each clip of the schedule leaves what each single step leaves. -/
theorem LaneWork.LeavesTo.foldl {t : Slot} {pos : Nat} {w : LaneWork} {f : LaneWork → Nat × ClipEntry → LaneWork}
    (hf : ∀ v i c, w.clip i = some c → c.track = t → LaneWork.LeavesTo t pos w v → LaneWork.LeavesTo t pos w (f v (i, c))) :
    LaneWork.LeavesTo t pos w ((scheduleIn t w.pool).foldl f w) := by
  have steps : ∀ (l : List (Nat × ClipEntry)) (v : LaneWork), (∀ q ∈ l, q ∈ scheduleIn t w.pool) →
      LaneWork.LeavesTo t pos w v → LaneWork.LeavesTo t pos w (l.foldl f v) := by
    intro l
    induction l with
    | nil => exact fun v _ hv => hv
    | cons q l ih =>
      intro v hl hv
      obtain ⟨hq, ht⟩ := mem_scheduleIn.1 (hl q List.mem_cons_self)
      exact ih _ (fun p hp => hl p (List.mem_cons_of_mem _ hp)) (hf v q.1 q.2 hq ht hv)
  exact steps _ w (fun q hq => hq) (.same rfl rfl rfl)

theorem LaneWork.leaves_retireClips (t : Slot) {p pos : Nat} (hp : p ≤ pos) (w : LaneWork) :
    LaneWork.LeavesTo t pos w (w.retireClips t p) := by
  refine .foldl fun v i c hc ht hv => ?_
  unfold LaneWork.retireClip
  split
  next late =>
    rw [hv.settings] at late
    exact hv.free hc ht (late.trans hp) rfl rfl
  next => exact hv

theorem LaneWork.LeavesTo.activate {t : Slot} {pos i : Nat} {v w : LaneWork} {b : ClipEntry}
    (h : LaneWork.LeavesTo t pos w v) (hb : w.clip i = some b) (ht : b.track = t) :
    LaneWork.LeavesTo t pos w (v.activate i b) :=
  h.write hb ht rfl rfl ⟨rfl, rfl, rfl⟩

theorem LaneWork.LeavesTo.release {t : Slot} {pos i : Nat} {v w : LaneWork} {b : ClipEntry}
    (h : LaneWork.LeavesTo t pos w v) (hb : w.clip i = some b) (ht : b.track = t) :
    LaneWork.LeavesTo t pos w (v.release i) := by
  unfold LaneWork.release
  split
  · exact h
  · next e he =>
    obtain ⟨a, ha, track, start, stop⟩ := h.comes i e he
    rw [hb, Option.some.injEq] at ha
    subst ha
    exact h.write hb ht rfl rfl ⟨track.symm, start.symm, stop.symm⟩

theorem LaneWork.leaves_changeClips (t : Slot) (p pos : Nat) (w : LaneWork) :
    LaneWork.LeavesTo t pos w (w.changeClips t p) := by
  refine .foldl fun v i c hc ht hv => ?_
  have started : LaneWork.LeavesTo t pos w
      (if c.state = .waiting ∧ c.start ≤ p + c.lead then v.activate i c else v) := by
    split
    · exact hv.activate hc ht
    · exact hv
  unfold LaneWork.changeClip
  dsimp only
  generalize (if c.state = .waiting ∧ c.start ≤ p + c.lead then v.activate i c else v) = u at started
  split
  · exact started.release hc ht
  · exact started

/-! ## The frames of a burst (R148) -/

theorem LaneWork.leaves_beginFrame (t : Slot) (pos : Nat) (w : LaneWork) : LaneWork.LeavesTo t pos w (w.beginFrame t) := by
  refine .trans ?_ (LaneWork.leaves_changeClips t w.x.cursor pos _)
  exact .same rfl rfl rfl

theorem LaneWork.leaves_advanceTo (t : Slot) {p pos : Nat} (hp : p ≤ pos) (w : LaneWork) :
    LaneWork.LeavesTo t pos w (w.advanceTo t p) := by
  refine .trans ?_ (LaneWork.leaves_retireClips t hp _)
  exact .same rfl rfl rfl

theorem ClipTrack.takeSample_mark (x : ClipTrack) (o : Option (Nat × ClipEntry)) (p : Nat) :
    (x.takeSample o p).2.2.degradedMark = x.degradedMark := by
  unfold ClipTrack.takeSample
  split
  · rfl
  · split
    · rfl
    · dsimp only
      split <;> rfl

theorem LaneWork.leaves_mixFrame (t : Slot) (pos : Nat) (l r : Int) (w : LaneWork) :
    LaneWork.LeavesTo t pos w (w.mixFrame t l r).1 := by
  obtain ⟨same, -⟩ := w.mixFrame_same t l r
  exact .same (w.x.takeSample_mark (playingClip w.x.cursor (scheduleIn t w.pool)) w.x.cursor) same.settings rfl

theorem LaneWork.leaves_fullFrame (t : Slot) {pos : Nat} (l r : Int) (w : LaneWork) (hp : w.x.cursor < pos) :
    LaneWork.LeavesTo t pos w (w.fullFrame t l r).1 := by
  have metered : LaneWork.LeavesTo t pos w ((w.beginFrame t).meterFrame l r) :=
    (w.leaves_beginFrame t pos).trans (.same rfl rfl rfl)
  refine (metered.trans (LaneWork.leaves_mixFrame t pos l r _)).trans (LaneWork.leaves_advanceTo t ?_ _)
  obtain ⟨-, mixed⟩ := ((w.beginFrame t).meterFrame l r).mixFrame_same t l r
  obtain ⟨-, begun⟩ := w.beginFrame_same t
  rw [mixed]
  exact Nat.succ_le_of_lt (begun.trans_lt hp)

theorem LaneWork.leaves_partialFrame (t : Slot) {pos : Nat} (w : LaneWork) (hp : w.x.cursor < pos) :
    LaneWork.LeavesTo t pos w (w.partialFrame t) := by
  refine (w.leaves_beginFrame t pos).trans (LaneWork.leaves_advanceTo t ?_ _)
  obtain ⟨-, begun⟩ := w.beginFrame_same t
  exact Nat.succ_le_of_lt (begun.trans_lt hp)

theorem LaneWork.leaves_beat (t : Slot) {pos : Nat} (b : Beat) (w : LaneWork) (hp : w.x.cursor + 2 ≤ pos) :
    LaneWork.LeavesTo t pos w (w.beat t b).1 := by
  cases hb : isFullBeat b with
  | true =>
    obtain ⟨-, first⟩ := w.fullFrame_same t (sampleAt b.data 0) (sampleAt b.data 1)
    simp only [LaneWork.beat, hb, if_true]
    exact (w.leaves_fullFrame t _ _ (by omega)).trans (LaneWork.leaves_fullFrame t _ _ _ (by omega))
  | false =>
    obtain ⟨-, first⟩ := w.partialFrame_same t
    have both := (w.leaves_partialFrame t (by omega)).trans (LaneWork.leaves_partialFrame t _ (by omega : _ < pos))
    simp only [LaneWork.beat, hb, Bool.false_eq_true, if_false]
    generalize (w.partialFrame t).partialFrame t = v at both
    exact both.trans (.same rfl rfl rfl)

theorem LaneWork.leaves_beats (t : Slot) {pos : Nat} (bs : List Beat) (w : LaneWork)
    (hp : w.x.cursor + 2 * bs.length ≤ pos) : LaneWork.LeavesTo t pos w (LaneWork.beats t bs w).1 := by
  induction bs generalizing w with
  | nil => exact .same rfl rfl rfl
  | cons b bs ih =>
    rw [List.length_cons] at hp
    obtain ⟨-, cursor, -⟩ := w.beat_spec t b
    exact (w.leaves_beat t b (by omega)).trans (ih (w.beat t b).1 (by omega))

theorem LaneWork.leaves_jump (t : Slot) {p pos : Nat} (hp : p ≤ pos) (w : LaneWork) : LaneWork.LeavesTo t pos w (w.jump t p) := by
  unfold LaneWork.jump
  split
  · refine .trans ?_ (LaneWork.leaves_advanceTo t hp _)
    exact .same rfl rfl rfl
  · exact .same rfl rfl rfl

/-- A processed burst leaves every clip of its track whose e + T is past the burst (R125, R148). -/
theorem LaneWork.leaves_process (t : Slot) {p : Nat} (bs : List Beat) (w : LaneWork) (hp : w.x.cursor ≤ p) :
    LaneWork.LeavesTo t (p + 2 * bs.length) w (LaneWork.process t p bs w).1 := by
  obtain ⟨-, cursor⟩ := w.jump_same t p
  rw [max_eq_right hp] at cursor
  refine ((w.leaves_jump t (Nat.le_add_right p _)).trans (LaneWork.leaves_beats t bs _ (by rw [cursor]))).trans ?_
  exact .same rfl rfl rfl

end Sys2Proof.Machine
end

section

/-! PROOFS. A burst answered forward (spec 09 sections 9.5 and 9.7): the device that its processing leaves, the underrun counter, and
the expiry of the hold timer. -/

namespace Sys2Proof.Machine

open Sys2Proof Sys2Proof.Safety

/-! ## The staging buffer against a schedule (R149 to R152) -/

/-- `y` differs from `x` in the staging buffer, the reads and the request alone. -/
def OnlyStages (x y : ClipTrack) : Prop :=
  y = { x with staged := y.staged, reads := y.reads, request := y.request }

theorem OnlyStages.trans {x y z : ClipTrack} (h : OnlyStages x y) (k : OnlyStages y z) : OnlyStages x z := by
  unfold OnlyStages at *
  rw [k, h]

theorem onlyStages_trimmed (x : ClipTrack) (clips : List (Nat × ClipEntry)) : OnlyStages x (x.trimmed clips) := rfl

theorem requesting_eq (x : ClipTrack) (clips : List (Nat × ClipEntry)) (stamp : Nat) :
    x.requesting clips stamp = { x with request := (x.requesting clips stamp).request } := by
  unfold ClipTrack.requesting
  split
  · rfl
  · split
    · split <;> rfl
    · rfl

theorem onlyStages_requesting (x : ClipTrack) (clips : List (Nat × ClipEntry)) (stamp : Nat) :
    OnlyStages x (x.requesting clips stamp) := by
  unfold OnlyStages
  rw [requesting_eq]

theorem requesting_staged (x : ClipTrack) (clips : List (Nat × ClipEntry)) (stamp : Nat) :
    (x.requesting clips stamp).staged = x.staged := by
  rw [requesting_eq]

/-- A lane track brought up to a schedule, with the request that it then makes (R148, R150, R152). -/
def ClipTrack.refreshed (x : ClipTrack) (clips : List (Nat × ClipEntry)) (stamp : Nat) : ClipTrack :=
  (x.trimmed clips).requesting clips stamp

theorem onlyStages_refreshed (x : ClipTrack) (clips : List (Nat × ClipEntry)) (stamp : Nat) :
    OnlyStages x (x.refreshed clips stamp) :=
  (onlyStages_trimmed x clips).trans (onlyStages_requesting _ clips stamp)

theorem refreshed_staged (x : ClipTrack) (clips : List (Nat × ClipEntry)) (stamp : Nat) :
    (x.refreshed clips stamp).staged = x.staged.filter fun s => isWanted x.stagingBase clips s.clip s.index :=
  requesting_staged _ clips stamp

/-- The staging lead depends on the samples staged, the window and the cursor alone (R149). -/
theorem stagingLead_congr {x y : ClipTrack} (hs : y.staged = x.staged) (hb : y.stagingBase = x.stagingBase)
    (hc : y.cursor = x.cursor) (clips : List (Nat × ClipEntry)) : y.stagingLead clips = x.stagingLead clips := by
  have staged : y.isStaged = x.isStaged := by
    funext i k
    rw [ClipTrack.isStaged, ClipTrack.isStaged, hs]
  rw [ClipTrack.stagingLead, ClipTrack.stagingLead, staged, hb, hc]

theorem mem_wantedIndices {base k : Nat} {e : ClipEntry} (h : k ∈ wantedIndices base e) :
    base ≤ e.start + k ∧ e.start + k < base + 4096 := by
  unfold wantedIndices at h
  split at h
  · cases h
  · rw [List.mem_range'_1, Config.stagingWindow] at h
    omega

/-- A staging lead from a cursor at the staging base is at most the window (R149). -/
theorem stagingLead_le {x : ClipTrack} (hb : x.stagingBase = x.cursor) (clips : List (Nat × ClipEntry)) :
    x.stagingLead clips ≤ 4096 := by
  unfold ClipTrack.stagingLead
  split
  · exact le_rfl
  · next q hq =>
    obtain ⟨c, -, hc⟩ := List.exists_of_findSome?_eq_some hq
    obtain ⟨k, hk, rfl⟩ := Option.map_eq_some_iff.1 hc
    have := mem_wantedIndices (List.mem_of_find?_eq_some hk)
    omega

/-! ## The device after a burst is processed -/

/-- The schedule of the track after the lane has processed a burst. -/
def Device.scheduleAfter (d : Device) (t : Slot) (x : ClipTrack) (p : Nat) (w : QueuedWrite) : List (Nat × ClipEntry) :=
  scheduleIn t (LaneWork.process t p w.original ⟨x, d.clipPool⟩).1.pool

/-- The lane track after a burst is processed, before the underrun counter is handled (R148). -/
def Device.laneAfter (d : Device) (t : Slot) (x : ClipTrack) (p : Nat) (w : QueuedWrite) : ClipTrack :=
  (LaneWork.process t p w.original ⟨x, d.clipPool⟩).1.x.trimmed (d.scheduleAfter t x p w)

/-- The device after the lane has processed the head of the write queue, before the underrun counter is handled (R148, R153). -/
def Device.burstProcessed (d : Device) (t : Slot) (x : ClipTrack) (p : Nat) (w : QueuedWrite) : Device :=
  let f := LaneWork.process t p w.original ⟨x, d.clipPool⟩
  { (d.setClips t (d.laneAfter t x p w)).answerHead f.2 with clipPool := f.1.pool }

/-- The device after a burst is answered forward, its track's context and the reports apart (R153, R154). -/
def Device.forwardedTo (d : Device) (t : Slot) (x : ClipTrack) (p : Nat) (w : QueuedWrite) (c : TrackContext)
    (reports : ReportWriter) : Device :=
  { (d.burstProcessed t x p w).setTrack t c with reports := reports }

section
variable {d : Device} {t : Slot} {x : ClipTrack} {p : Nat} {w : QueuedWrite}

theorem burstProcessed_track (d : Device) (t : Slot) (x : ClipTrack) (p : Nat) (w : QueuedWrite) :
    (d.burstProcessed t x p w).track t = { d.track t with body := .description (d.laneAfter t x p w) } :=
  Device.track_setTrack_self d t _

theorem burstProcessed_schedule (d : Device) (t : Slot) (x : ClipTrack) (p : Nat) (w : QueuedWrite) :
    (d.burstProcessed t x p w).schedule t = d.scheduleAfter t x p w := rfl

theorem burstProcessed_eq (d : Device) (t : Slot) (x : ClipTrack) (p : Nat) (w : QueuedWrite) :
    d.burstProcessed t x p w = d.forwardedTo t x p w ((d.burstProcessed t x p w).track t) d.reports := by
  rw [Device.forwardedTo, Device.setTrack_track]
  rfl

theorem forwardedTo_track (c : TrackContext) (reports : ReportWriter) : (d.forwardedTo t x p w c reports).track t = c :=
  Device.track_setTrack_self (d.burstProcessed t x p w) t c

theorem forwardedTo_otherTracks (c : TrackContext) (reports : ReportWriter) {u : Slot} (hu : u ≠ t) :
    (d.forwardedTo t x p w c reports).track u = d.track u :=
  (Device.track_setTrack_of_ne (d.burstProcessed t x p w) c hu.symm).trans (Device.track_setTrack_of_ne d _ hu.symm)

theorem forwardedTo_writeQueue (c : TrackContext) (reports : ReportWriter) {v : QueuedWrite} {rest : List QueuedWrite}
    (hq : d.writeQueue = v :: rest) :
    (d.forwardedTo t x p w c reports).writeQueue =
      { v with beats := (LaneWork.process t p w.original ⟨x, d.clipPool⟩).2, status := .ready } :: rest := by
  show (Device.answerHead (d.setClips t _) _).writeQueue = _
  have same : ∀ y, (d.setClips t y).writeQueue = v :: rest := fun _ => hq
  simp only [Device.answerHead, same]

theorem forwardedTo_same (c : TrackContext) (reports : ReportWriter) :
    let e := d.forwardedTo t x p w c reports
    e.clipPool = (LaneWork.process t p w.original ⟨x, d.clipPool⟩).1.pool ∧ e.cuePool = d.cuePool ∧
      e.windows = d.windows ∧ e.readList = d.readList ∧ e.outstanding = d.outstanding ∧ e.engine = d.engine ∧
      e.monitor = d.monitor :=
  ⟨rfl, rfl, rfl, rfl, rfl, rfl, rfl⟩

theorem forwardedTo_setTrack (c k : TrackContext) (reports : ReportWriter) :
    (d.forwardedTo t x p w c reports).setTrack t k = d.forwardedTo t x p w k reports := by
  rw [Device.forwardedTo, Device.forwardedTo, ← setTrack_setTrack (d.burstProcessed t x p w) t c k]
  rfl

theorem forward_eq (d : Device) (t : Slot) (x : ClipTrack) (p : Nat) (w : QueuedWrite) (supply : Supply) :
    d.forward t x p w supply = (((d.burstProcessed t x p w).countBurst t supply
      (holdsClipEnd (d.schedule t) p w.original.length)).laneRefresh t).endDrain t := rfl

/-- A clip whose e + T is past a burst is still there after it (R125). -/
theorem trackClips_forwardedTo (hx : x.cursor ≤ p)
    (h : ∃ q ∈ d.trackClips t, p + 2 * w.original.length < q.2.stop + x.settings.tailTicks) (c : TrackContext)
    (reports : ReportWriter) : (d.forwardedTo t x p w c reports).trackClips t ≠ [] := by
  obtain ⟨q, hq, late⟩ := h
  obtain ⟨hq, own⟩ := Device.mem_trackClips.1 hq
  have leaves := LaneWork.leaves_process t w.original ⟨x, d.clipPool⟩ hx
  obtain ⟨e, he, own', -⟩ := leaves.stays q.1 q.2 hq own late
  exact List.ne_nil_of_mem ((Device.mem_trackClips (d := d.forwardedTo t x p w c reports)).2 ⟨he, own'⟩)

/-- The device after a burst is answered forward, with its track in state `st`, the lane `y` brought up to the schedule, and these
reports (R150, R153). -/
def Device.forwardedAs (d : Device) (t : Slot) (x : ClipTrack) (p : Nat) (w : QueuedWrite) (st : TrackState) (y : ClipTrack)
    (reports : ReportWriter) : Device :=
  d.forwardedTo t x p w { d.track t with
    state := st
    body := .description (y.refreshed (d.scheduleAfter t x p w) d.nextArrival) } reports

/-- What the underrun counter's handling leaves is brought up to the schedule, and that ends the answer forward where a drain has
clips left (R148, R150, R46). -/
theorem forward_of_counted {supply : Supply} {st : TrackState} {y : ClipTrack} {reports : ReportWriter} (hx : x.cursor ≤ p)
    (hc : (d.burstProcessed t x p w).countBurst t supply (holdsClipEnd (d.schedule t) p w.original.length) =
      d.forwardedTo t x p w { d.track t with state := st, body := .description y } reports)
    (hm : st.mixes = true)
    (hd : st = .draining → ∃ q ∈ d.trackClips t, p + 2 * w.original.length < q.2.stop + x.settings.tailTicks) :
    d.forward t x p w supply = d.forwardedAs t x p w st y reports := by
  have refresh : (d.forwardedTo t x p w { d.track t with state := st, body := .description y } reports).laneRefresh t =
      d.forwardedAs t x p w st y reports := by
    rw [Device.laneRefresh, forwardedTo_track]
    simp only [TrackContext.clips, hm, if_true]
    rw [Device.setClips, forwardedTo_setTrack, forwardedTo_track]
    rfl
  rw [forward_eq, hc, refresh]
  by_cases draining : st = .draining
  · exact endDrain_of_clips (trackClips_forwardedTo hx (hd draining) _ _)
  · refine endDrain_of_state ?_
    rw [Device.forwardedAs, forwardedTo_track]
    exact draining

end

end Sys2Proof.Machine
end

section

/-! PROOFS. The underrun counter (spec 09 section 9.7): each outcome of a burst answered forward, and what they share. -/

namespace Sys2Proof.Machine

open Sys2Proof Sys2Proof.Safety

/-! ## The escalation of a lane and its recovery (R46, R54, R158, R159) -/

/-- The state of a track after its lane recovers (R54, R159). -/
def TrackState.recovered (st : TrackState) : TrackState :=
  if st = .draining then .draining else .running

/-- The state of a track after its lane degrades (R54, R158). -/
def TrackState.worsened (st : TrackState) : TrackState :=
  if st = .draining then .draining else .degraded

/-- The lane of a track in state `st` with its degraded mark written, which it is in DRAINING alone (R46). -/
def ClipTrack.marked (x : ClipTrack) (st : TrackState) (b : Bool) : ClipTrack :=
  if st = .draining then { x with degradedMark := some b } else x

theorem recoverLane_eq (d : Device) (t : Slot) (x : ClipTrack) :
    d.recoverLane t x = (d.setTrack t { d.track t with
      state := (d.track t).state.recovered
      body := .description (ClipTrack.marked { x with underruns := 0 } (d.track t).state false) }).post
        (.laneRecovered t x.lane x.cursor (x.stagingLead (d.schedule t))) := by
  unfold Device.recoverLane TrackState.recovered ClipTrack.marked
  by_cases draining : (d.track t).state = .draining
  · simp only [draining, if_true, Device.setClips]
  · simp only [draining, if_false, setTrackState_setClips]

theorem degradeLane_eq (d : Device) (t : Slot) (x : ClipTrack) :
    d.degradeLane t x = (d.setTrack t { d.track t with
      state := (d.track t).state.worsened
      body := .description (x.marked (d.track t).state true) }).post
        (.laneDegraded t x.lane x.cursor x.underruns (x.stagingLead (d.schedule t))) := by
  unfold Device.degradeLane TrackState.worsened ClipTrack.marked
  by_cases draining : (d.track t).state = .draining
  · simp only [draining, if_true, Device.setClips]
  · simp only [draining, if_false, setTrackState_setClips]

section
variable {d : Device} {t : Slot} {x : ClipTrack} {p : Nat} {w : QueuedWrite}

/-! ## The lane after a burst (R148) -/

theorem laneAfter_spec (hx : x.cursor ≤ p) :
    (d.laneAfter t x p w).settings = x.settings ∧ (d.laneAfter t x p w).lane = x.lane ∧
      (d.laneAfter t x p w).underruns = x.underruns ∧ (d.laneAfter t x p w).degradedMark = x.degradedMark ∧
      (d.laneAfter t x p w).cursor = p + 2 * w.original.length ∧
      (d.laneAfter t x p w).stagingBase = (d.laneAfter t x p w).cursor := by
  obtain ⟨same, cursor, base, -⟩ := LaneWork.process_spec t p w.original ⟨x, d.clipPool⟩
  rw [max_eq_right hx] at cursor
  exact ⟨same.settings, same.lane, same.underruns, (LaneWork.leaves_process t w.original ⟨x, d.clipPool⟩ hx).mark, cursor, base⟩

theorem laneAfter_degradedHandling (hx : x.cursor ≤ p) (st : TrackState) :
    (d.laneAfter t x p w).degradedHandling st = x.degradedHandling st := by
  obtain ⟨-, -, -, mark, -⟩ := laneAfter_spec (d := d) (t := t) (w := w) hx
  rw [ClipTrack.degradedHandling, mark, ClipTrack.degradedHandling]

theorem burstProcessed_setClips (y : ClipTrack) :
    (d.burstProcessed t x p w).setClips t y =
      d.forwardedTo t x p w { d.track t with body := .description y } d.reports := by
  rw [Device.setClips, burstProcessed_track]
  rfl

/-! ## The underrun counter (R158, R159) -/

/-- The underrun counter after one more underrun burst, with the count of them (R158). -/
def ClipTrack.underrun (x : ClipTrack) : ClipTrack :=
  { x with
    underruns := min Config.faultLevel (x.underruns + 1)
    counters := { x.counters with underruns := satAdd x.counters.underruns 1 } }

theorem underrunBurst_eq (d : Device) (t : Slot) (x : ClipTrack) :
    d.underrunBurst t x =
      if x.degradedHandling (d.track t).state then
        if x.underrun.underruns = 15 then (d.setClips t x.underrun).faultTrack t .underrun else d.setClips t x.underrun
      else if 8 ≤ x.underrun.underruns then d.degradeLane t x.underrun
      else d.setClips t x.underrun := rfl

theorem underrun_underruns {x : ClipTrack} (h : x.underruns ≤ 14) : x.underrun.underruns = x.underruns + 1 :=
  min_eq_right (Nat.succ_le_succ h)

theorem countBurst_short (hx : x.cursor ≤ p) (ends : Bool) :
    (d.burstProcessed t x p w).countBurst t .short ends =
      if x.degradedHandling (d.track t).state then
        if (d.laneAfter t x p w).underrun.underruns = 15 then
          ((d.burstProcessed t x p w).setClips t (d.laneAfter t x p w).underrun).faultTrack t .underrun
        else (d.burstProcessed t x p w).setClips t (d.laneAfter t x p w).underrun
      else if 8 ≤ (d.laneAfter t x p w).underrun.underruns then
        (d.burstProcessed t x p w).degradeLane t (d.laneAfter t x p w).underrun
      else (d.burstProcessed t x p w).setClips t (d.laneAfter t x p w).underrun := by
  rw [← laneAfter_degradedHandling hx, Device.countBurst, burstProcessed_track]
  simp only [TrackContext.clips]
  rw [underrunBurst_eq, burstProcessed_track]

theorem countBurst_resets (hx : x.cursor ≤ p) (hh : x.degradedHandling (d.track t).state = false) (ends : Bool) :
    (d.burstProcessed t x p w).countBurst t .complete ends = d.forwardedTo t x p w
      { d.track t with body := .description { d.laneAfter t x p w with underruns := 0 } } d.reports := by
  rw [Device.countBurst, burstProcessed_track]
  simp only [TrackContext.clips, laneAfter_degradedHandling hx, hh, Bool.false_eq_true, if_false]
  exact burstProcessed_setClips _

theorem countBurst_keeps (hx : x.cursor ≤ p) (hh : x.degradedHandling (d.track t).state = true) {ends : Bool}
    (he : ends = false) (hl : (d.laneAfter t x p w).stagingLead (d.scheduleAfter t x p w) < 2048) :
    (d.burstProcessed t x p w).countBurst t .complete ends = d.forwardedTo t x p w
      { d.track t with body := .description (d.laneAfter t x p w) } d.reports := by
  have lead : ¬Config.recoveryLead ≤ (d.laneAfter t x p w).stagingLead (d.scheduleAfter t x p w) := not_le.2 hl
  rw [Device.countBurst, burstProcessed_track]
  simp only [TrackContext.clips, laneAfter_degradedHandling hx, hh, if_true, burstProcessed_schedule, he, lead, decide_false,
    Bool.or_false, Bool.false_eq_true, if_false]
  exact burstProcessed_track d t x p w ▸ burstProcessed_eq d t x p w

theorem countBurst_recovers (hx : x.cursor ≤ p) (hh : x.degradedHandling (d.track t).state = true) {ends : Bool}
    (he : ends = true ∨ 2048 ≤ (d.laneAfter t x p w).stagingLead (d.scheduleAfter t x p w)) :
    (d.burstProcessed t x p w).countBurst t .complete ends = d.forwardedTo t x p w
      { d.track t with
        state := (d.track t).state.recovered
        body := .description (ClipTrack.marked { d.laneAfter t x p w with underruns := 0 } (d.track t).state false) }
      (d.reports.posted (.laneRecovered t x.lane (p + 2 * w.original.length)
        ((d.laneAfter t x p w).stagingLead (d.scheduleAfter t x p w)))) := by
  obtain ⟨-, lane, -, -, cursor, -⟩ := laneAfter_spec (d := d) (t := t) (w := w) hx
  have recovers : (ends || decide (Config.recoveryLead ≤
      (d.laneAfter t x p w).stagingLead (d.scheduleAfter t x p w))) = true := by
    rw [Bool.or_eq_true, decide_eq_true_iff]
    exact he
  rw [Device.countBurst, burstProcessed_track]
  simp only [TrackContext.clips, laneAfter_degradedHandling hx, hh, if_true]
  refine (if_pos recovers).trans ?_
  rw [recoverLane_eq, burstProcessed_track, burstProcessed_schedule, lane, cursor]
  rfl

theorem countBurst_underrun (hx : x.cursor ≤ p) (ends : Bool)
    (hl : if x.degradedHandling (d.track t).state then x.underruns < 14 else x.underruns < 7) :
    (d.burstProcessed t x p w).countBurst t .short ends = d.forwardedTo t x p w
      { d.track t with body := .description (d.laneAfter t x p w).underrun } d.reports := by
  obtain ⟨-, -, underruns, -⟩ := laneAfter_spec (d := d) (t := t) (w := w) hx
  rw [countBurst_short hx, burstProcessed_setClips]
  split at hl
  next hh => rw [if_pos hh, underrun_underruns (by omega), if_neg (by omega)]
  next hh => rw [if_neg hh, underrun_underruns (by omega), if_neg (by omega)]

theorem countBurst_degrades (hx : x.cursor ≤ p) (ends : Bool) (hh : x.degradedHandling (d.track t).state = false)
    (hl : x.underruns = 7) :
    (d.burstProcessed t x p w).countBurst t .short ends = d.forwardedTo t x p w
      { d.track t with
        state := (d.track t).state.worsened
        body := .description ((d.laneAfter t x p w).underrun.marked (d.track t).state true) }
      (d.reports.posted (.laneDegraded t x.lane (p + 2 * w.original.length) 8
        ((d.laneAfter t x p w).stagingLead (d.scheduleAfter t x p w)))) := by
  obtain ⟨-, lane, underruns, -, cursor, -⟩ := laneAfter_spec (d := d) (t := t) (w := w) hx
  have counted : (d.laneAfter t x p w).underrun.underruns = 8 := by rw [underrun_underruns (by omega), underruns, hl]
  rw [countBurst_short hx, if_neg (by simp [hh]), if_pos counted.ge, degradeLane_eq, burstProcessed_track,
    burstProcessed_schedule, counted, ← lane, ← cursor]
  rfl

theorem countBurst_faults (hx : x.cursor ≤ p) (ends : Bool) (hh : x.degradedHandling (d.track t).state = true)
    (hl : x.underruns = 14) :
    (d.burstProcessed t x p w).countBurst t .short ends = d.forwardedTo t x p w
      { d.track t with
        state := .faulted
        faultCause := some .underrun
        body := .description (d.laneAfter t x p w).underrun.stopped }
      (d.reports.posted (.trackFaulted t .underrun (d.track t).state)) := by
  obtain ⟨-, -, underruns, -⟩ := laneAfter_spec (d := d) (t := t) (w := w) hx
  rw [countBurst_short hx, if_pos hh, underrun_underruns (by omega), if_pos (by omega), burstProcessed_setClips,
    Device.faultTrack, forwardedTo_track, forwardedTo_setTrack]
  rfl

end

end Sys2Proof.Machine
end

section

/-! PROOFS. A burst answered forward (spec 09 section 9.5): what every outcome shares, and what each leaves of the track. -/

namespace Sys2Proof.Machine

open Sys2Proof Sys2Proof.Safety

/-! ## What every outcome shares -/

/-- `y` differs from `x` in the staging buffer, the reads, the request, the underrun counter, the counts and the degraded mark
alone. -/
def Counts (x y : ClipTrack) : Prop :=
  y = { x with
    staged := y.staged
    reads := y.reads
    request := y.request
    underruns := y.underruns
    counters := y.counters
    degradedMark := y.degradedMark }

theorem Counts.trans {x y z : ClipTrack} (h : Counts x y) (k : Counts y z) : Counts x z := by
  unfold Counts at *
  rw [k, h]

theorem OnlyStages.counts {x y : ClipTrack} (h : OnlyStages x y) : Counts x y := by
  unfold OnlyStages at h
  unfold Counts
  rw [h]

theorem Counts.marked {x y : ClipTrack} (h : Counts x y) (st : TrackState) (b : Bool) : Counts x (y.marked st b) := by
  refine h.trans ?_
  unfold ClipTrack.marked
  split <;> rfl

/-- `e` is `d` with the head `w` of the write queue answered forward at position `p` by the lane of track `t`, which becomes `y`. -/
structure Device.MixedTo (d : Device) (t : Slot) (x : ClipTrack) (p : Nat) (w : QueuedWrite) (rest : List QueuedWrite)
    (y : ClipTrack) (e : Device) : Prop where
  queue : e.writeQueue =
    { w with beats := (LaneWork.process t p w.original ⟨x, d.clipPool⟩).2, status := .ready } :: rest
  pool : e.clipPool = (LaneWork.process t p w.original ⟨x, d.clipPool⟩).1.pool
  body : (e.track t).body = .description y
  cursor : y.cursor = p + 2 * w.original.length
  base : y.stagingBase = y.cursor
  held : y.held = none
  timer : y.timer = .idle
  meter : y.meter = (LaneWork.process t p w.original ⟨x, d.clipPool⟩).1.x.meter
  settings : y.settings = x.settings
  lane : y.lane = x.lane
  others : ∀ u, u ≠ t → e.track u = d.track u
  cuePool : e.cuePool = d.cuePool
  windows : e.windows = d.windows
  readList : e.readList = d.readList
  outstanding : e.outstanding = d.outstanding
  engine : e.engine = d.engine
  monitor : e.monitor = d.monitor

section
variable {d : Device} {t : Slot} {x y : ClipTrack} {p : Nat} {w : QueuedWrite} {rest : List QueuedWrite}

theorem settle_track (d : Device) (t : Slot) : d.settle.track t = d.track t := rfl

theorem counts_laneAfter : Counts (LaneWork.process t p w.original ⟨x, d.clipPool⟩).1.x (d.laneAfter t x p w) := rfl

theorem counts_underrun : Counts (LaneWork.process t p w.original ⟨x, d.clipPool⟩).1.x (d.laneAfter t x p w).underrun := rfl

theorem counts_stopped (h : Counts (LaneWork.process t p w.original ⟨x, d.clipPool⟩).1.x y) :
    Counts (LaneWork.process t p w.original ⟨x, d.clipPool⟩).1.x y.stopped := by
  obtain ⟨-, -, -, held, timer, -⟩ := LaneWork.process_spec t p w.original ⟨x, d.clipPool⟩
  unfold Counts at *
  rw [ClipTrack.stopped, ← held, ← timer]
  rw [h]

theorem mixedTo_forwardedTo (hx : x.cursor ≤ p) (hq : d.writeQueue = w :: rest) {c : TrackContext}
    (hc : c.body = .description y) (counts : Counts (LaneWork.process t p w.original ⟨x, d.clipPool⟩).1.x y)
    (reports : ReportWriter) : d.MixedTo t x p w rest y (d.forwardedTo t x p w c reports).settle := by
  obtain ⟨same, cursor, base, held, timer, -⟩ := LaneWork.process_spec t p w.original ⟨x, d.clipPool⟩
  rw [max_eq_right hx] at cursor
  obtain ⟨pool, cuePool, windows, readList, outstanding, engine, monitor⟩ :=
    forwardedTo_same (d := d) (t := t) (x := x) (p := p) (w := w) c reports
  exact {
    queue := by rw [Device.settle_writeQueue, forwardedTo_writeQueue c reports hq]
    pool := by rw [Device.settle_clipPool, pool]
    body := by rw [settle_track, forwardedTo_track, hc]
    cursor := by rw [counts]; exact cursor
    base := by rw [counts]; exact base
    held := by rw [counts]; exact held
    timer := by rw [counts]; exact timer
    meter := by rw [counts]
    settings := by rw [counts]; exact same.settings
    lane := by rw [counts]; exact same.lane
    others := fun u hu => by rw [settle_track, forwardedTo_otherTracks c reports hu]
    cuePool := by rw [Device.settle_cuePool, cuePool]
    windows := by rw [Device.settle_windows, windows]
    readList := by rw [Device.settle_readList, readList]
    outstanding := by rw [Device.settle_outstanding, outstanding]
    engine := by rw [Device.settle_engine, engine]
    monitor := by rw [Device.settle_monitor, monitor] }

/-! ## Each outcome -/

/-- The lane that a burst answered forward in state `st` leaves, and the device with it. -/
theorem forward_leaves {supply : Supply} {st : TrackState} {reports : ReportWriter} (hx : x.cursor ≤ p)
    (hq : d.writeQueue = w :: rest)
    (hc : (d.burstProcessed t x p w).countBurst t supply (holdsClipEnd (d.schedule t) p w.original.length) =
      d.forwardedTo t x p w { d.track t with state := st, body := .description y } reports)
    (counts : Counts (LaneWork.process t p w.original ⟨x, d.clipPool⟩).1.x y) (hm : st.mixes = true)
    (hd : st = .draining → ∃ q ∈ d.trackClips t, p + 2 * w.original.length < q.2.stop + x.settings.tailTicks) :
    ∃ z, d.MixedTo t x p w rest z (d.forward t x p w supply).settle ∧ OnlyStages y z ∧
      z.staged = y.staged.filter (fun s => isWanted y.stagingBase (d.scheduleAfter t x p w) s.clip s.index) ∧
      (d.forward t x p w supply).settle.track t = { d.track t with state := st, body := .description z } ∧
      (d.forward t x p w supply).settle.reports = reports := by
  rw [forward_of_counted hx hc hm hd]
  refine ⟨y.refreshed (d.scheduleAfter t x p w) d.nextArrival,
    mixedTo_forwardedTo hx hq rfl (counts.trans (onlyStages_refreshed _ _ _).counts) reports,
    onlyStages_refreshed _ _ _, refreshed_staged _ _ _, ?_, rfl⟩
  exact forwardedTo_track _ reports

theorem OnlyStages.counted (h : OnlyStages x y) :
    y.underruns = x.underruns ∧ y.counters = x.counters ∧ y.degradedMark = x.degradedMark := by
  rw [h]
  exact ⟨rfl, rfl, rfl⟩

/-- The staging lead of a lane is the one that its answer forward found (R149, R159). -/
theorem stagingLead_left {z : ClipTrack} (stages : OnlyStages y z)
    (hz : z.staged = y.staged.filter fun s => isWanted y.stagingBase (d.scheduleAfter t x p w) s.clip s.index)
    (hs : y.staged = (d.laneAfter t x p w).staged) (hb : y.stagingBase = (d.laneAfter t x p w).stagingBase)
    (hc : y.cursor = (d.laneAfter t x p w).cursor) :
    z.stagingLead (d.scheduleAfter t x p w) = (d.laneAfter t x p w).stagingLead (d.scheduleAfter t x p w) := by
  refine stagingLead_congr ?_ (by rw [stages]; exact hb) (by rw [stages]; exact hc) _
  rw [hz, hs, hb]
  exact List.filter_eq_self.2 fun s hs => (List.mem_filter.1 hs).2

theorem forward_resets (hx : x.cursor ≤ p) (hq : d.writeQueue = w :: rest)
    (hh : x.degradedHandling (d.track t).state = false) (hm : (d.track t).state.mixes = true)
    (hd : (d.track t).state = .draining → ∃ q ∈ d.trackClips t, p + 2 * w.original.length < q.2.stop + x.settings.tailTicks) :
    ∃ z, d.MixedTo t x p w rest z (d.forward t x p w .complete).settle ∧ z.underruns = 0 ∧
      z.counters = (LaneWork.process t p w.original ⟨x, d.clipPool⟩).1.x.counters ∧ z.degradedMark = x.degradedMark ∧
      (d.forward t x p w .complete).settle.track t = { d.track t with body := .description z } ∧
      (d.forward t x p w .complete).settle.reports = d.reports := by
  obtain ⟨-, -, -, mark, -⟩ := laneAfter_spec (d := d) (t := t) (w := w) hx
  obtain ⟨z, mixed, stages, -, track, reports⟩ := forward_leaves hx hq (countBurst_resets hx hh _) rfl hm hd
  obtain ⟨underruns, counters, mark'⟩ := stages.counted
  exact ⟨z, mixed, underruns, counters, mark'.trans mark, track, reports⟩

theorem forward_underrun (hx : x.cursor ≤ p) (hq : d.writeQueue = w :: rest)
    (hl : if x.degradedHandling (d.track t).state then x.underruns < 14 else x.underruns < 7)
    (hm : (d.track t).state.mixes = true)
    (hd : (d.track t).state = .draining → ∃ q ∈ d.trackClips t, p + 2 * w.original.length < q.2.stop + x.settings.tailTicks) :
    ∃ z, d.MixedTo t x p w rest z (d.forward t x p w .short).settle ∧ OnlyStages (d.laneAfter t x p w).underrun z ∧
      (d.forward t x p w .short).settle.track t = { d.track t with body := .description z } ∧
      (d.forward t x p w .short).settle.reports = d.reports := by
  obtain ⟨z, mixed, stages, -, track, reports⟩ := forward_leaves hx hq (countBurst_underrun hx _ hl) rfl hm hd
  exact ⟨z, mixed, stages, track, reports⟩

theorem TrackState.mixes_worsened (st : TrackState) : st.worsened.mixes = true := by
  cases st <;> rfl

theorem TrackState.mixes_recovered (st : TrackState) : st.recovered.mixes = true := by
  cases st <;> rfl

theorem TrackState.worsened_eq_draining {st : TrackState} : st.worsened = .draining ↔ st = .draining := by
  cases st <;> decide

theorem TrackState.recovered_eq_draining {st : TrackState} : st.recovered = .draining ↔ st = .draining := by
  cases st <;> decide

theorem forward_degrades (hx : x.cursor ≤ p) (hq : d.writeQueue = w :: rest)
    (hh : x.degradedHandling (d.track t).state = false) (hl : x.underruns = 7)
    (hd : (d.track t).state = .draining → ∃ q ∈ d.trackClips t, p + 2 * w.original.length < q.2.stop + x.settings.tailTicks) :
    ∃ z, d.MixedTo t x p w rest z (d.forward t x p w .short).settle ∧
      OnlyStages ((d.laneAfter t x p w).underrun.marked (d.track t).state true) z ∧
      (d.forward t x p w .short).settle.track t =
        { d.track t with state := (d.track t).state.worsened, body := .description z } ∧
      (d.forward t x p w .short).settle.reports = d.reports.posted (.laneDegraded t x.lane z.cursor 8
        ((d.laneAfter t x p w).stagingLead (d.scheduleAfter t x p w))) := by
  obtain ⟨z, mixed, stages, -, track, reports⟩ := forward_leaves hx hq (countBurst_degrades hx _ hh hl)
    (counts_underrun.marked _ _) (TrackState.mixes_worsened _)
    (fun h => hd (TrackState.worsened_eq_draining.1 h))
  exact ⟨z, mixed, stages, track, by rw [reports, mixed.cursor]⟩

/-- A faulted track makes no request and ends no drain (R53). -/
theorem forwardedTo_rests {c : TrackContext} (hc : c.state = .faulted) (reports : ReportWriter) :
    ((d.forwardedTo t x p w c reports).laneRefresh t).endDrain t = d.forwardedTo t x p w c reports := by
  have idle : (d.forwardedTo t x p w c reports).laneRefresh t = d.forwardedTo t x p w c reports := by
    rcases Device.laneRefresh_cases (d.forwardedTo t x p w c reports) t with same | ⟨-, -, mixes, -⟩
    · exact same
    · rw [forwardedTo_track, hc] at mixes
      cases mixes
  rw [idle]
  exact endDrain_of_state (by rw [forwardedTo_track, hc]; decide)

theorem forward_faults (hx : x.cursor ≤ p) (hq : d.writeQueue = w :: rest)
    (hh : x.degradedHandling (d.track t).state = true) (hl : x.underruns = 14) :
    d.MixedTo t x p w rest (d.laneAfter t x p w).underrun.stopped (d.forward t x p w .short).settle ∧
      (d.forward t x p w .short).settle.track t = { d.track t with
        state := .faulted
        faultCause := some .underrun
        body := .description (d.laneAfter t x p w).underrun.stopped } ∧
      (d.forward t x p w .short).settle.reports = d.reports.posted (.trackFaulted t .underrun (d.track t).state) := by
  have done : d.forward t x p w .short = d.forwardedTo t x p w { d.track t with
        state := .faulted
        faultCause := some .underrun
        body := .description (d.laneAfter t x p w).underrun.stopped }
      (d.reports.posted (.trackFaulted t .underrun (d.track t).state)) := by
    rw [forward_eq, countBurst_faults hx _ hh hl]
    exact forwardedTo_rests rfl _
  rw [done]
  exact ⟨mixedTo_forwardedTo hx hq rfl (counts_stopped counts_underrun) _, by rw [settle_track, forwardedTo_track], rfl⟩

end

end Sys2Proof.Machine
end

section

/-! PROOFS. The expiry of the hold timer (spec 09 sections 9.5 and 9.7): O36. -/

namespace Sys2Proof.Machine

open Sys2Proof Sys2Proof.Safety

section
variable {d : Device} {t : Slot} {x : ClipTrack} {p : Nat} {w : QueuedWrite} {rest : List QueuedWrite} {h : HeldMapping}

theorem underrun_spec (hx : x.cursor ≤ p) (hu : x.underruns ≤ 14) :
    (d.laneAfter t x p w).underrun.underruns = x.underruns + 1 ∧
      (d.laneAfter t x p w).underrun.counters =
        { (LaneWork.process t p w.original ⟨x, d.clipPool⟩).1.x.counters with
          underruns := min 65535 (x.counters.underruns + 1) } ∧
      (d.laneAfter t x p w).underrun.degradedMark = x.degradedMark := by
  obtain ⟨-, -, underruns, mark, -⟩ := laneAfter_spec (d := d) (t := t) (w := w) hx
  obtain ⟨same, -⟩ := LaneWork.process_spec t p w.original ⟨x, d.clipPool⟩
  refine ⟨?_, ?_, mark⟩
  · rw [underrun_underruns (by omega), underruns]
  · rw [← same.counted]
    rfl

theorem marked_spec (y : ClipTrack) (st : TrackState) (b : Bool) :
    (y.marked st b).underruns = y.underruns ∧ (y.marked st b).counters = y.counters ∧
      (y.marked st b).degradedMark = if st = .draining then some b else y.degradedMark := by
  unfold ClipTrack.marked
  split <;> exact ⟨rfl, rfl, rfl⟩

/-! ## The held burst (R154) -/

theorem heldWrite_of_holding (hh : Holding d t x w rest h) : d.heldWrite = some (t, w) := by
  obtain ⟨queue, held, -, m, found, kind, slot⟩ := hh
  simp only [Device.heldWrite, queue, held, if_true, QueuedWrite.lane, found, kind, slot]

theorem heldBy_of_holding (hh : Holding d t x w rest h) : d.heldBy t x = some (h, w) := by
  have write := heldWrite_of_holding hh
  obtain ⟨-, -, mapping, -⟩ := hh
  simp only [Device.heldBy, write, mapping, if_true]

theorem heldWrite_eq_none (hh : ∀ w ∈ d.writeQueue.head?, w.status ≠ .held) : d.heldWrite = none := by
  unfold Device.heldWrite
  cases hq : d.writeQueue with
  | nil => rfl
  | cons w ws => exact if_neg (hh w (by rw [hq]; rfl))

/-- The expiry of the hold timer answers the held burst forward as an underrun burst (R154). -/
theorem timerExpires_forwards {limit : Nat} (hh : Holding d t x w rest h) (hp : (d.track t).parityOk = true)
    (hb : (d.track t).body = .description x) (hm : (d.track t).state.mixes = true) (ht : x.timer = .running limit)
    (hc : ∀ q ∈ d.trackClips t, q.2.parityOk = true) : d.timerExpires = d.forward t x h.first w .short := by
  simp only [Device.timerExpires, heldWrite_of_holding hh]
  rw [Device.expireHold, TrackContext.clips_eq_some.2 hb]
  simp only [heldBy_of_holding hh, ht]
  rw [Device.readingTrack, if_pos hp, if_pos hm, Device.endHold, damagedClip_eq_none hc]

/-- An underrun burst under RUNNING handling (R46, R158). -/
theorem forward_escalates (hx : x.cursor ≤ p) (hq : d.writeQueue = w :: rest) (hl : x.underruns ≤ 7)
    (hh : x.degradedHandling (d.track t).state = false) (hm : (d.track t).state.mixes = true)
    (hd : (d.track t).state = .draining → ∃ q ∈ d.trackClips t, p + 2 * w.original.length < q.2.stop + x.settings.tailTicks) :
    ∃ z e, e = (d.forward t x p w .short).settle ∧ d.MixedTo t x p w rest z e ∧ z.underruns = x.underruns + 1 ∧
      z.counters.underruns = min 65535 (x.counters.underruns + 1) ∧
      (x.underruns < 7 → (e.track t).state = (d.track t).state ∧ z.degradedMark = x.degradedMark ∧ e.reports = d.reports) ∧
      (x.underruns = 7 →
        (e.track t).state = (d.track t).state.worsened ∧
        z.degradedMark = (if (d.track t).state = .draining then some true else x.degradedMark) ∧
        ∃ lead, lead ≤ 4096 ∧ e.reports = d.reports.posted (.laneDegraded t x.lane z.cursor 8 lead)) := by
  obtain ⟨raised, counted, mark⟩ := underrun_spec (d := d) (t := t) (w := w) hx (hl.trans (by decide))
  rcases hl.lt_or_eq with less | last
  · obtain ⟨z, mixed, stages, track, reports⟩ := forward_underrun hx hq (by rw [if_neg (by simp [hh])]; exact less) hm hd
    obtain ⟨underruns, counters, mark'⟩ := stages.counted
    refine ⟨z, _, rfl, mixed, underruns.trans raised, by rw [counters, counted], fun _ => ⟨?_, mark'.trans mark, reports⟩,
      fun e => absurd e less.ne⟩
    rw [track]
  · obtain ⟨z, mixed, stages, track, reports⟩ := forward_degrades hx hq hh last hd
    obtain ⟨underruns, counters, mark'⟩ := stages.counted
    obtain ⟨-, -, -, -, -, base⟩ := laneAfter_spec (d := d) (t := t) (w := w) hx
    obtain ⟨sameUnderruns, sameCounters, written⟩ := marked_spec (d.laneAfter t x p w).underrun (d.track t).state true
    refine ⟨z, _, rfl, mixed, underruns.trans (sameUnderruns.trans raised), by rw [counters, sameCounters, counted],
      fun e => absurd last e.ne, fun _ => ⟨by rw [track], ?_, _, stagingLead_le base _, reports⟩⟩
    rw [mark', written, mark]

end

end Sys2Proof.Machine

section
open Sys2Proof Sys2Proof.Machine Sys2Proof.Safety

/-- Settles O36: the held burst is answered forward as an underrun burst, and the clips are what its processing leaves. -/
theorem holdExpiryProcessesTheBurst : Obligations.HoldExpiryProcessesTheBurst := by
  refine ⟨fun s reset idle => ?_, ?_⟩
  · show execHoldTimerExpiry s = _
    rw [execHoldTimerExpiry, State.ran_released reset]
    simp only [Device.timerExpires, heldWrite_eq_none (d := { s.dev with ports := [] }) idle]
  · intro s w rest m t x h limit reset queue held found kind slot parity body handling mapping timer cursor few clips
    have holding : Holding { s.dev with ports := [] } t x w rest h := ⟨queue, held, mapping, m, found, kind, slot⟩
    have mixes : (s.dev.track t).state.mixes = true := by
      rcases handling with st | ⟨st, -⟩ <;> rw [st] <;> rfl
    have running : x.degradedHandling (s.dev.track t).state = false := by
      rcases handling with st | ⟨st, mark, -⟩
      · simp [ClipTrack.degradedHandling, st]
      · simp [ClipTrack.degradedHandling, st, mark]
    have late : (s.dev.track t).state = .draining →
        ∃ q ∈ s.dev.trackClips t, h.first + 2 * w.original.length < q.2.stop + x.settings.tailTicks := by
      intro draining
      rcases handling with st | ⟨-, -, q, hq, after⟩
      · rw [draining] at st
        cases st
      · exact ⟨q, hq, after.trans_le (Nat.le_add_right _ _)⟩
    obtain ⟨y, e, he, mixed, underruns, counted, below, last⟩ :=
      forward_escalates (d := { s.dev with ports := [] }) cursor queue few running mixes late
    have leaves := LaneWork.leaves_process t w.original ⟨x, s.dev.clipPool⟩ cursor
    obtain ⟨-, -, -, -, -, beats⟩ := LaneWork.process_spec t h.first w.original ⟨x, s.dev.clipPool⟩
    have clip : ∀ i, e.clip i = (LaneWork.process t h.first w.original ⟨x, s.dev.clipPool⟩).1.clip i := by
      intro i
      rw [Device.clip, mixed.pool]
      rfl
    refine ⟨e, y, _, ?_, mixed.queue, beats, mixed.body, mixed.held, mixed.timer, mixed.cursor, mixed.base, underruns,
      counted, mixed.settings, mixed.lane, below, fun seven => ?_, mixed.others, mixed.cuePool, fun i c hc other => ?_,
      fun i c hc => leaves.comes i c (clip i ▸ hc), mixed.windows, mixed.readList, mixed.outstanding, mixed.engine,
      mixed.monitor⟩
    · show execHoldTimerExpiry s = _
      rw [execHoldTimerExpiry, State.ran_released reset, timerExpires_forwards holding parity body mixes timer clips, he]
    · obtain ⟨state, mark, lead⟩ : (e.track t).state = (s.dev.track t).state.worsened ∧
          y.degradedMark = (if (s.dev.track t).state = .draining then some true else x.degradedMark) ∧ _ := last seven
      refine ⟨?_, lead⟩
      rcases handling with st | ⟨st, -⟩
      · rw [if_pos st, state, mark, st]
        exact ⟨rfl, rfl⟩
      · rw [if_neg (by rw [st]; decide), state, mark, st]
        exact ⟨rfl, rfl⟩
    · rw [clip]
      exact leaves.others i c hc other

end
end

section

/-! PROOFS. A burst offered to a lane under either handling (spec 09 sections 9.5 and 9.7). -/

namespace Sys2Proof.Machine

open Sys2Proof Sys2Proof.Safety

/-- An accepted write of a MIX window joins the queue, and the head of the queue is dealt with (R9, R10). -/
theorem exec_mixWrite {s : State} {id : Nat} {addr : Addr} {beats : List Beat} {m : WindowMatch} (hr : s.dev.resetN = true)
    (hw : Writing s.dev addr beats m) (hk : m.window.kind = .mix) :
    exec (.upstreamWrite id addr beats) s =
      .next { s with dev := Device.settle (Device.offerHead (Joined s.dev id addr beats m)) } := by
  obtain ⟨burst, room, mode, undamaged, found⟩ := hw
  have placed : Device.placeWrite { s.dev with ports := [] } id addr beats
      (writeMatch s.dev.engine.mode (s.dev.lookup addr)) = Joined s.dev id addr beats m := by
    rw [found, mode]
    show Device.matchedWrite { s.dev with ports := [] } id addr beats m = _
    rw [Device.matchedWrite, hk]
    rfl
  show execUpstreamWrite id addr beats s = _
  rw [execUpstreamWrite, if_pos burst, if_pos hr, State.ran_released hr,
    writeArrives_good (d := { s.dev with ports := [] }) room undamaged]
  exact congrArg (fun d : Device => Host.Outcome.next { s with dev := d.offerHead.settle }) placed

theorem isRevisit_eq_false {cursor p frames : Nat} (hc : cursor ≤ p) (hl : p + frames - 1 ≤ 4294967295) :
    isRevisit cursor frames p = false := by
  rw [isRevisit, decide_eq_false (by omega), decide_eq_false (by unfold Config.lastPosition; omega)]
  rfl

section
variable {d : Device} {t : Slot} {x : ClipTrack} {p : Nat} {w : QueuedWrite} {rest : List QueuedWrite}

/-- The head of the queue, offered to a lane that mixes where it maps ahead of the cursor, is answered by R153. -/
theorem offerHead_mapped (hq : d.writeQueue = w :: rest) (hw : w.status = .waiting) (hl : w.lane = some t)
    (hp : (d.track t).parityOk = true) (hb : (d.track t).body = .description x) (hm : (d.track t).state.mixes = true)
    (mapped : (p : Int) = mapFirst x.settings.ringFrames x.cursor (x.settings.firstFrame w.addr)) (hx : x.cursor ≤ p)
    (last : p + 2 * w.original.length - 1 ≤ 4294967295) : d.offerHead = d.offerMapped t x p w := by
  rw [Device.offerHead_of_lane hq hw hl, Device.offer, if_pos hp, TrackContext.clips_eq_some.2 hb]
  simp only [hm, if_true, Device.offerLane, ← mapped, isRevisit_eq_false hx last, Bool.false_eq_true, if_false, Int.toNat_natCast]

theorem offerMapped_complete (hc : ∀ q ∈ d.trackClips t, q.2.parityOk = true)
    (need : neededSamples (d.schedule t) p w.original ≠ [])
    (staged : ∀ k ∈ neededSamples (d.schedule t) p w.original, x.isStaged k.1 k.2 = true) :
    d.offerMapped t x p w = d.forward t x p w .complete := by
  rw [Device.offerMapped, damagedClip_eq_none hc]
  simp only [List.isEmpty_eq_false_iff.2 need, List.all_eq_true.2 staged, Bool.false_eq_true, if_false, if_true]

theorem offerMapped_short (hc : ∀ q ∈ d.trackClips t, q.2.parityOk = true)
    (lacks : ∃ k ∈ neededSamples (d.schedule t) p w.original, x.isStaged k.1 k.2 = false)
    (hh : x.degradedHandling (d.track t).state = true) : d.offerMapped t x p w = d.forward t x p w .short := by
  obtain ⟨k, hk, missing⟩ := lacks
  have need : neededSamples (d.schedule t) p w.original ≠ [] := List.ne_nil_of_mem hk
  have short : ((neededSamples (d.schedule t) p w.original).all fun n => x.isStaged n.1 n.2) = false := by
    rw [List.all_eq_false]
    exact ⟨k, hk, by simp [missing]⟩
  rw [Device.offerMapped, damagedClip_eq_none hc]
  simp only [List.isEmpty_eq_false_iff.2 need, short, hh, Bool.false_eq_true, if_false, if_true]

theorem degradedHandling_iff {st : TrackState} :
    x.degradedHandling st = true ↔ st = .degraded ∨ st = .draining ∧ x.degradedMark = some true := by
  simp [ClipTrack.degradedHandling]

theorem holdsClipEnd_iff {n : Nat} :
    holdsClipEnd (d.schedule t) p n = true ↔ ∃ c ∈ d.trackClips t, p < c.2.stop ∧ c.2.stop ≤ p + 2 * n := by
  simp only [holdsClipEnd, List.any_eq_true, (schedule_perm d t).mem_iff, Bool.and_eq_true, decide_eq_true_eq, Nat.succ_le_iff]

theorem marked_stages (y : ClipTrack) (st : TrackState) (b : Bool) :
    (y.marked st b).staged = y.staged ∧ (y.marked st b).stagingBase = y.stagingBase ∧ (y.marked st b).cursor = y.cursor := by
  unfold ClipTrack.marked
  split <;> exact ⟨rfl, rfl, rfl⟩

/-- A burst mixed in full under DEGRADED handling: the lane recovers, or keeps its counter (R46, R159). -/
theorem forward_recovers (hx : x.cursor ≤ p) (hq : d.writeQueue = w :: rest)
    (hh : x.degradedHandling (d.track t).state = true) (hm : (d.track t).state.mixes = true)
    (hd : (d.track t).state = .draining → ∃ q ∈ d.trackClips t, p + 2 * w.original.length < q.2.stop + x.settings.tailTicks) :
    ∃ z e, e = (d.forward t x p w .complete).settle ∧ d.MixedTo t x p w rest z e ∧
      z.counters = (LaneWork.process t p w.original ⟨x, d.clipPool⟩).1.x.counters ∧
      e.track t = { d.track t with state := (e.track t).state, body := .description z } ∧
      ((∃ c ∈ d.trackClips t, p < c.2.stop ∧ c.2.stop ≤ p + 2 * w.original.length) ∨ 2048 ≤ z.stagingLead (e.schedule t) →
        z.underruns = 0 ∧ (e.track t).state = (d.track t).state.recovered ∧
          z.degradedMark = (if (d.track t).state = .draining then some false else x.degradedMark) ∧
          e.reports = d.reports.posted (.laneRecovered t x.lane z.cursor (z.stagingLead (e.schedule t)))) ∧
      (¬(∃ c ∈ d.trackClips t, p < c.2.stop ∧ c.2.stop ≤ p + 2 * w.original.length) →
        z.stagingLead (e.schedule t) < 2048 →
        z.underruns = x.underruns ∧ (e.track t).state = (d.track t).state ∧ z.degradedMark = x.degradedMark ∧
          e.reports = d.reports) := by
  obtain ⟨-, -, sameUnderruns, mark, -⟩ := laneAfter_spec (d := d) (t := t) (w := w) hx
  have schedule : ∀ {z e}, d.MixedTo t x p w rest z e → e.schedule t = d.scheduleAfter t x p w := by
    intro z e mixed
    rw [Device.schedule, Device.trackClips, mixed.pool]
    rfl
  rw [← holdsClipEnd_iff]
  by_cases recovers : holdsClipEnd (d.schedule t) p w.original.length = true ∨
      2048 ≤ (d.laneAfter t x p w).stagingLead (d.scheduleAfter t x p w)
  · have counts : Counts (LaneWork.process t p w.original ⟨x, d.clipPool⟩).1.x { d.laneAfter t x p w with underruns := 0 } := rfl
    obtain ⟨z, mixed, stages, staged, track, reports⟩ := forward_leaves hx hq (countBurst_recovers hx hh recovers)
      (counts.marked _ _) (TrackState.mixes_recovered _) (fun h => hd (TrackState.recovered_eq_draining.1 h))
    obtain ⟨underruns, counters, mark'⟩ := stages.counted
    obtain ⟨zeroed, sameCounters, written⟩ :=
      marked_spec { d.laneAfter t x p w with underruns := 0 } (d.track t).state false
    obtain ⟨sameStaged, base, cursor⟩ :=
      marked_stages { d.laneAfter t x p w with underruns := 0 } (d.track t).state false
    have lead := stagingLead_left stages staged sameStaged base cursor
    refine ⟨z, _, rfl, mixed, counters.trans sameCounters, by rw [track], fun _ => ⟨underruns.trans zeroed, by rw [track], ?_, ?_⟩,
      fun none low => ?_⟩
    · rw [mark', written, ← mark]
    · rw [reports, schedule mixed, lead, mixed.cursor]
    · rw [schedule mixed, lead] at low
      exact (recovers.elim none (not_le.2 low)).elim
  · obtain ⟨none, low⟩ := not_or.1 recovers
    obtain ⟨z, mixed, stages, staged, track, reports⟩ := forward_leaves (st := (d.track t).state) hx hq
      (countBurst_keeps hx hh (Bool.eq_false_iff.2 none) (not_le.1 low)) counts_laneAfter hm hd
    obtain ⟨underruns, counters, mark'⟩ := stages.counted
    have lead := stagingLead_left stages staged rfl rfl rfl
    refine ⟨z, _, rfl, mixed, counters, by rw [track], fun recovered => ?_,
      fun _ _ => ⟨underruns.trans sameUnderruns, by rw [track], mark'.trans mark, reports⟩⟩
    rw [schedule mixed, lead] at recovered
    exact (recovers recovered).elim

end

end Sys2Proof.Machine
end

section

/-! PROOFS. Underrun bursts under DEGRADED handling, and the bursts offered to an empty queue (spec 09 section 9.7). -/

namespace Sys2Proof.Machine

open Sys2Proof Sys2Proof.Safety

section
variable {d : Device} {t : Slot} {x : ClipTrack} {p : Nat} {w : QueuedWrite} {rest : List QueuedWrite}

/-- An accepted write as it joins the write queue with its match (R9). -/
def Device.arriving (d : Device) (id : Nat) (addr : Addr) (beats : List Beat) (m : WindowMatch) : QueuedWrite :=
  ⟨id, addr, beats, beats, some m, d.nextArrival, .waiting⟩

theorem lane_arriving {id : Nat} {addr : Addr} {beats : List Beat} {m : WindowMatch} (hk : m.window.kind = .mix)
    (ht : m.window.slot = some t) : (d.arriving id addr beats m).lane = some t := by
  simp only [Device.arriving, QueuedWrite.lane, hk, ht, if_true]

/-- An underrun burst under DEGRADED handling: the counter rises, and at 15 the track is faulted (R53, R158). -/
theorem forward_starves (hx : x.cursor ≤ p) (hq : d.writeQueue = w :: rest) (hl : x.underruns ≤ 14)
    (hh : x.degradedHandling (d.track t).state = true) (hm : (d.track t).state.mixes = true)
    (hd : (d.track t).state = .draining → ∃ q ∈ d.trackClips t, p + 2 * w.original.length < q.2.stop + x.settings.tailTicks) :
    ∃ z e, e = (d.forward t x p w .short).settle ∧ d.MixedTo t x p w rest z e ∧ z.underruns = x.underruns + 1 ∧
      z.counters = { (LaneWork.process t p w.original ⟨x, d.clipPool⟩).1.x.counters with
        underruns := min 65535 ((LaneWork.process t p w.original ⟨x, d.clipPool⟩).1.x.counters.underruns + 1) } ∧
      (x.underruns < 14 → (e.track t).state = (d.track t).state ∧ z.degradedMark = x.degradedMark ∧ e.reports = d.reports) ∧
      (x.underruns = 14 → (e.track t).state = .faulted ∧ (e.track t).faultCause = some .underrun ∧
        z.request = none ∧ (∀ u ∈ z.reads, u.abandoned = true) ∧ z.degradedMark = none ∧
        e.reports = d.reports.posted (.trackFaulted t .underrun (d.track t).state)) := by
  obtain ⟨raised, -, mark⟩ := underrun_spec (d := d) (t := t) (w := w) hx hl
  rcases hl.lt_or_eq with less | last
  · obtain ⟨z, mixed, stages, track, reports⟩ := forward_underrun hx hq (by rw [if_pos hh]; exact less) hm hd
    obtain ⟨underruns, counters, mark'⟩ := stages.counted
    exact ⟨z, _, rfl, mixed, underruns.trans raised, counters, fun _ => ⟨by rw [track], mark'.trans mark, reports⟩,
      fun e => absurd e less.ne⟩
  · obtain ⟨mixed, track, reports⟩ := forward_faults hx hq hh last
    refine ⟨_, _, rfl, mixed, raised, rfl, fun less => absurd last less.ne,
      fun _ => ⟨by rw [track], by rw [track], rfl, fun u hu => ?_, rfl, reports⟩⟩
    obtain ⟨r, -, rfl⟩ := List.mem_map.1 hu
    rfl

end

end Sys2Proof.Machine

end

section

/-! PROOFS. The response to a sample read that completes a held burst (spec 09 sections 9.4 and 9.5): O39. -/

namespace Sys2Proof.Machine

open Sys2Proof Sys2Proof.Safety

/-! ## The needed samples lie in the window (R147, R149) -/

theorem mem_fullPositions {q : Nat} (p : Nat) (bs : List Beat) (h : q ∈ fullPositions p bs) :
    p ≤ q ∧ q < p + 2 * bs.length := by
  induction bs generalizing p with
  | nil => cases h
  | cons b bs ih =>
    rw [List.length_cons]
    rcases List.mem_append.1 h with here | later
    · split at here
      · simp only [List.mem_cons, List.not_mem_nil, or_false] at here
        omega
      · cases here
    · have := ih (p + 2) later
      omega

theorem mem_neededSamples {clips : List (Nat × ClipEntry)} {p : Nat} {bs : List Beat} {k : Nat × Nat}
    (h : k ∈ neededSamples clips p bs) :
    ∃ c ∈ clips, c.2.state ≠ .releasing ∧ k.1 = c.1 ∧ p ≤ c.2.start + k.2 ∧ c.2.start + k.2 < p + 2 * bs.length ∧
      c.2.start + k.2 < c.2.stop := by
  obtain ⟨q, hq, hk⟩ := List.mem_filterMap.1 h
  obtain ⟨c, hc, rfl⟩ := Option.map_eq_some_iff.1 hk
  obtain ⟨mem, sounds⟩ := List.mem_filter.1 (List.mem_of_find?_eq_some hc)
  have plays := List.find?_some hc
  simp only [Bool.and_eq_true, decide_eq_true_eq, bne_iff_ne] at plays sounds
  obtain ⟨begun, ends⟩ := plays
  obtain ⟨first, last⟩ := mem_fullPositions p bs hq
  have position : c.2.start + (q - c.2.start) = q := Nat.add_sub_of_le begun
  exact ⟨c, mem, sounds, rfl, by omega, by omega, by omega⟩

theorem find?_schedule {d : Device} {t : Slot} {c : Nat × ClipEntry} {i : Nat} (hc : c ∈ d.schedule t) (hi : i = c.1) :
    (d.schedule t).find? (fun q => q.1 == i) = some c := by
  cases hf : (d.schedule t).find? (fun q => q.1 == i) with
  | none => exact absurd hi.symm (by simpa using List.find?_eq_none.1 hf c hc)
  | some a =>
    have same : a.1 = i := by simpa using List.find?_some hf
    obtain ⟨ha, -⟩ := Device.mem_schedule.1 (List.mem_of_find?_eq_some hf)
    obtain ⟨hc, -⟩ := Device.mem_schedule.1 hc
    rw [same, hi, hc, Option.some.injEq] at ha
    exact congrArg some (Prod.ext (same.trans hi) ha.symm)

/-- A needed sample of a burst at the staging base is wanted (R147, R149). -/
theorem isWanted_of_needed {d : Device} {t : Slot} {p : Nat} {bs : List Beat} {k : Nat × Nat} (hb : bs.length ≤ 16)
    (h : k ∈ neededSamples (d.schedule t) p bs) : isWanted p (d.schedule t) k.1 k.2 = true := by
  obtain ⟨c, hc, sounds, own, first, last, within⟩ := mem_neededSamples h
  have found : (d.schedule t).find? (fun q => q.1 == k.1) = some c := find?_schedule hc own
  have window : c.2.start + k.2 < p + Config.stagingWindow := by
    unfold Config.stagingWindow
    omega
  simp [isWanted, found, sounds, first, window, within]

/-! ## What a response stages (R151) -/

/-- A lane track without the read of an answered identifier (R151). -/
def ClipTrack.without (x : ClipTrack) (tag : Nat) : ClipTrack :=
  { x with reads := x.reads.filter fun u => u.tag != tag }

/-- The sample that a response brings (R151). -/
def sampleOf (c : ClipEntry) (i : Nat) (addr : Addr) (data : List Word) (k : Nat) : Resp → StagedSample
  | .ok => ⟨i, k, BitVec.ofNat 16 (field (dataBytes data) (c.sampleAddr k - addr.toNat) 2), false, true⟩
  | .error => ⟨i, k, 0, true, true⟩

theorem sampleOf_clip (c : ClipEntry) (i : Nat) (addr : Addr) (data : List Word) (k : Nat) (resp : Resp) :
    (sampleOf c i addr data k resp).clip = i ∧ (sampleOf c i addr data k resp).index = k := by
  cases resp <;> exact ⟨rfl, rfl⟩

section
variable {d : Device} {t : Slot} {x : ClipTrack} {r : SampleRead} {o : Outstanding} {resp : Resp} {data : List Word}
  {c : ClipEntry}

theorem received_eq (hc : d.clip r.clip = some c) :
    x.received d t r o resp data = { x with
      staged := x.staged ++ (x.arrivals (d.schedule t) r).map fun k => sampleOf c r.clip o.addr data k resp
      counters := { x.counters with sampleErrorFlag := (x.received d t r o resp data).counters.sampleErrorFlag } } := by
  cases resp with
  | ok => simp only [ClipTrack.received, hc, stagedFrom, sampleOf]
  | error => simp only [ClipTrack.received, stagedInError, sampleOf]

/-- The lane of a track that a response to its live read reaches, brought up to the schedule (R151). -/
def Device.laneReceived (d : Device) (t : Slot) (x : ClipTrack) (r : SampleRead) (o : Outstanding) (resp : Resp)
    (data : List Word) : ClipTrack :=
  ((x.without o.tag).received d t r o resp data).refreshed (d.schedule t) d.nextArrival

theorem laneReceived_eq (hc : d.clip r.clip = some c) :
    d.laneReceived t x r o resp data = { x with
      staged := (d.laneReceived t x r o resp data).staged
      reads := (d.laneReceived t x r o resp data).reads
      request := (d.laneReceived t x r o resp data).request
      counters := { x.counters with
        sampleErrorFlag := (d.laneReceived t x r o resp data).counters.sampleErrorFlag } } := by
  have stages : OnlyStages _ (d.laneReceived t x r o resp data) := onlyStages_refreshed _ _ _
  unfold OnlyStages at stages
  rw [stages, received_eq hc]
  rfl

theorem mem_laneReceived_staged (hc : d.clip r.clip = some c) {u : StagedSample} :
    u ∈ (d.laneReceived t x r o resp data).staged ↔
      (u ∈ x.staged ∨ ∃ k ∈ x.arrivals (d.schedule t) r, u = sampleOf c r.clip o.addr data k resp) ∧
        isWanted x.stagingBase (d.schedule t) u.clip u.index = true := by
  rw [Device.laneReceived, refreshed_staged, List.mem_filter, received_eq hc]
  simp only [List.mem_append, List.mem_map, eq_comm (a := u)]
  exact Iff.rfl

theorem isStaged_iff {i k : Nat} : x.isStaged i k = true ↔ ∃ s ∈ x.staged, s.clip = i ∧ s.index = k := by
  simp [ClipTrack.isStaged]

theorem mem_arrivals {k : Nat} :
    k ∈ x.arrivals (d.schedule t) r ↔ (r.first ≤ k ∧ k < r.first + r.count) ∧
      isWanted x.stagingBase (d.schedule t) r.clip k = true ∧ x.isStaged r.clip k = false := by
  simp [ClipTrack.arrivals]

/-- A wanted sample that a read covers is staged by the response, unless it was staged before (R151). -/
theorem arrives {i k : Nat} (hc : d.clip r.clip = some c) (wanted : isWanted x.stagingBase (d.schedule t) i k = true)
    (missing : x.isStaged i k = false) (covered : i = r.clip ∧ r.first ≤ k ∧ k < r.first + r.count) :
    sampleOf c i o.addr data k resp ∈ (d.laneReceived t x r o resp data).staged := by
  obtain ⟨rfl, range⟩ := covered
  obtain ⟨clip, index⟩ := sampleOf_clip c r.clip o.addr data k resp
  rw [mem_laneReceived_staged hc, clip, index]
  exact ⟨.inr ⟨k, mem_arrivals.2 ⟨range, wanted, missing⟩, rfl⟩, wanted⟩

theorem laneReceived_staged {i k : Nat} (hc : d.clip r.clip = some c)
    (wanted : isWanted x.stagingBase (d.schedule t) i k = true)
    (covered : x.isStaged i k = true ∨ i = r.clip ∧ r.first ≤ k ∧ k < r.first + r.count) :
    (d.laneReceived t x r o resp data).isStaged i k = true := by
  cases staged : x.isStaged i k with
  | true =>
    obtain ⟨s, hs, rfl, rfl⟩ := isStaged_iff.1 staged
    exact isStaged_iff.2 ⟨s, (mem_laneReceived_staged hc).2 ⟨.inl hs, wanted⟩, rfl, rfl⟩
  | false =>
    have covered := covered.resolve_left (by simp [staged])
    exact isStaged_iff.2 ⟨_, arrives hc wanted staged covered, sampleOf_clip ..⟩

theorem laneReceived_comes (hc : d.clip r.clip = some c) {u : StagedSample}
    (hu : u ∈ (d.laneReceived t x r o resp data).staged) :
    u ∈ x.staged ∨ u.clip = r.clip ∧ x.isStaged u.clip u.index = false := by
  rcases ((mem_laneReceived_staged hc).1 hu).1 with old | ⟨k, hk, rfl⟩
  · exact .inl old
  · obtain ⟨clip, index⟩ := sampleOf_clip c r.clip o.addr data k resp
    rw [clip, index]
    exact .inr ⟨rfl, (mem_arrivals.1 hk).2.2⟩

/-! ## The completion of a held burst (R154) -/

theorem laneRefresh_setClips (y : ClipTrack) (hm : (d.track t).state.mixes = true) :
    (d.setClips t y).laneRefresh t = d.setClips t (y.refreshed (d.schedule t) d.nextArrival) := by
  rw [Device.laneRefresh, Device.track_setClips_self]
  simp only [TrackContext.clips, hm, if_true]
  rw [Device.setClips, Device.track_setClips_self, Device.setClips, setTrack_setTrack]
  rfl

theorem completionTest_forwards {h : HeldMapping} {w : QueuedWrite} {rest : List QueuedWrite}
    (hh : Holding d t x w rest h) (hb : (d.track t).body = .description x) (hm : (d.track t).state.mixes = true)
    (hc : ∀ q ∈ d.trackClips t, q.2.parityOk = true)
    (staged : ∀ k ∈ neededSamples (d.schedule t) h.first w.original, x.isStaged k.1 k.2 = true) :
    d.completionTest t = d.forward t x h.first w .complete := by
  have complete : ((d.track t).state.mixes &&
      (neededSamples (d.schedule t) h.first w.original).all fun n => x.isStaged n.1 n.2) = true := by
    rw [hm, Bool.true_and]
    exact List.all_eq_true.2 staged
  rw [Device.completionTest, TrackContext.clips_eq_some.2 hb]
  simp only [heldBy_of_holding hh]
  rw [if_pos complete, Device.endHold, damagedClip_eq_none hc]

theorem stageResponse_forwards {h : HeldMapping} {w : QueuedWrite} {rest : List QueuedWrite} {v : ClipTrack}
    (hv : v = d.laneReceived t x r o resp data) (hp : (d.track t).parityOk = true)
    (hg : ∀ q ∈ d.trackClips t, q.2.parityOk = true) (hm : (d.track t).state.mixes = true)
    (hh : Holding d t x w rest h) (held : v.held = x.held)
    (staged : ∀ k ∈ neededSamples (d.schedule t) h.first w.original, v.isStaged k.1 k.2 = true) :
    d.stageResponse t x r o resp data = (d.setClips t v).forward t v h.first w .complete := by
  have holding : Holding (d.setClips t v) t v w rest h := by
    obtain ⟨queue, status, mapping, found⟩ := hh
    exact ⟨queue, status, held.trans mapping, found⟩
  rw [Device.stageResponse, Device.readingTrack, if_pos hp, damagedClip_eq_none hg]
  show ((d.setClips t ((x.without o.tag).received d t r o resp data)).laneRefresh t).completionTest t = _
  rw [laneRefresh_setClips _ hm, ← Device.laneReceived, ← hv]
  refine completionTest_forwards holding ?_ ?_ hg staged
  · rw [Device.track_setClips_self]
  · rw [Device.track_setClips_self]
    exact hm

end

end Sys2Proof.Machine
end

section

/-! PROOFS. A held burst whose last needed samples a response brings, and the settling of O39 (spec 09 sections 9.4, 9.5, 9.7). -/

namespace Sys2Proof.Machine

open Sys2Proof Sys2Proof.Safety

/-- The report writer after a sample read of a lane is answered: an ERROR response posts MEMORY ERROR (R17, R151). -/
def Device.responseReports (d : Device) (t : Slot) (l : LaneNo) (o : Outstanding) : Resp → ReportWriter
  | .ok => d.reports
  | .error => d.reports.posted (.memoryError t (some l) o.addr o.count)

/-- The device with a sample read of a lane answered, before its lane takes the response (R17). -/
def SampleAnswered (d : Device) (tag : Nat) (t : Slot) (l : LaneNo) (o : Outstanding) (resp : Resp) : Device :=
  { Answered d tag with reports := d.responseReports t l o resp }

theorem exec_sampleResponse {s : State} {tag : Nat} {o : Outstanding} {l : LaneNo} {t : Slot} {x : ClipTrack} {r : SampleRead}
    {resp : Resp} {data : List Word} (ha : Answering s.dev tag o (.samples l)) (ht : o.tag = tag) (hn : data.length = o.count)
    (hl : s.dev.laneHolder l = some (t, x)) (hf : x.reads.find? (fun q => q.tag == tag) = some r) (live : r.abandoned = false) :
    exec (.prefetchResponse tag resp data) s =
      .next { s with dev := ((SampleAnswered s.dev tag t l o resp).stageResponse t x r o resp data).settle } := by
  obtain ⟨reset, outstanding, purpose⟩ := ha
  have outstanding : Device.outstandingOf { s.dev with ports := [] } tag = some o := outstanding
  have fits : dataFits o resp data = true := by
    cases resp with
    | ok => exact decide_eq_true hn
    | error => rfl
  have read : (Answered s.dev tag).sampleReadOf l o.tag = some (t, x, r) := by
    have holder : (Answered s.dev tag).laneHolder l = some (t, x) := hl
    rw [Device.sampleReadOf, holder, ht]
    simp only [hf, Option.map_some]
  have answered : Device.prefetched { s.dev with ports := [] } tag resp data =
      (Answered s.dev tag).sampleResponse l o resp data := by
    simp only [Device.prefetched, outstanding, purpose, fits, if_true]
    rfl
  show execPrefetchResponse tag resp data s = _
  rw [execPrefetchResponse, State.ran_released reset, answered, Device.sampleResponse, read]
  simp only [live, Bool.false_eq_true, if_false]
  cases resp <;> rfl

end Sys2Proof.Machine

section
open Sys2Proof Sys2Proof.Machine Sys2Proof.Safety

/-- Settles O39: the burst offered to an empty queue, in full and short under either handling, and the held burst that a response
completes. -/
theorem burstIsMixedInFull : Obligations.BurstIsMixedInFull := by
  refine ⟨?offered, ?held⟩
  case offered =>
    rintro s id addr beats m t x p _ reset empty writing kind slot parity body rfl good mapped cursor last need f q rfl rfl
    have queue : (Joined s.dev id addr beats m).writeQueue = s.dev.arriving id addr beats m :: [] :=
      congrArg (· ++ [s.dev.arriving id addr beats m]) empty
    have tail : x.settings.tailTicks = 48 * x.settings.tail := Nat.mul_comm _ _
    have offered (hm : (s.dev.track t).state.mixes = true) : exec (.upstreamWrite id addr beats) s =
        .next { s with dev :=
          ((Joined s.dev id addr beats m).offerMapped t x p (s.dev.arriving id addr beats m)).settle } := by
      rw [exec_mixWrite reset writing kind,
        offerHead_mapped queue rfl (lane_arriving kind slot) parity body hm mapped cursor last]
    refine ⟨fun staged handling => ?full, fun lacks handling few => ?short⟩
    case full =>
      have mixes : (s.dev.track t).state.mixes = true := by
        rcases handling with st | st | ⟨st, -⟩ <;> rw [st] <;> rfl
      have late : (s.dev.track t).state = .draining →
          ∃ c ∈ s.dev.trackClips t, p + 2 * beats.length < c.2.stop + x.settings.tailTicks := by
        intro draining
        rw [tail]
        rcases handling with st | st | ⟨-, late⟩
        · simp [draining] at st
        · simp [draining] at st
        · exact late
      rw [offered mixes, offerMapped_complete (w := s.dev.arriving id addr beats m) (d := Joined s.dev id addr beats m) good need staged]
      cases hh : x.degradedHandling (s.dev.track t).state with
      | false =>
        obtain ⟨y, mixed, underruns, counters, mark, track, reports⟩ :=
          forward_resets (d := Joined s.dev id addr beats m) cursor queue hh mixes late
        refine ⟨_, y, rfl, mixed.queue, by rw [track]; rfl, mixed.pool, mixed.cursor, mixed.base, mixed.held, mixed.timer,
          mixed.meter, counters, mixed.settings, mixed.lane, mixed.others, mixed.cuePool, mixed.windows, mixed.readList,
          mixed.outstanding, mixed.engine, mixed.monitor, fun _ => ⟨underruns, by rw [track]; rfl, mark, reports⟩,
          fun degraded => ?_⟩
        rw [degradedHandling_iff.2 degraded] at hh
        cases hh
      | true =>
        obtain ⟨y, e, he, mixed, counters, track, recovers, keeps⟩ :=
          forward_recovers (d := Joined s.dev id addr beats m) cursor queue hh mixes late
        rw [← he]
        refine ⟨e, y, rfl, mixed.queue, track, mixed.pool, mixed.cursor, mixed.base, mixed.held, mixed.timer,
          mixed.meter, counters, mixed.settings, mixed.lane, mixed.others, mixed.cuePool, mixed.windows, mixed.readList,
          mixed.outstanding, mixed.engine, mixed.monitor, fun running => ?_, ?_⟩
        · rcases degradedHandling_iff.1 hh with degraded | ⟨draining, mark⟩
          · simp [degraded] at running
          · simp [draining, mark] at running
        · rintro degraded lead rfl
          refine ⟨fun recovered => ?_, fun none => keeps fun ⟨c, hc, ended⟩ => none c hc ended⟩
          obtain ⟨underruns, state, mark, reports⟩ : y.underruns = 0 ∧ (e.track t).state = (s.dev.track t).state.recovered ∧
            y.degradedMark = (if (s.dev.track t).state = .draining then some false else x.degradedMark) ∧ _ := recovers recovered
          exact ⟨underruns, fun st => by rw [state, st]; rfl, fun st => ⟨by rw [state, st]; rfl, by rw [mark, if_pos st]⟩, reports⟩
    case short =>
      have hh : x.degradedHandling (s.dev.track t).state = true :=
        degradedHandling_iff.2 (handling.imp_right fun ⟨draining, mark, _⟩ => ⟨draining, mark⟩)
      have mixes : (s.dev.track t).state.mixes = true := by
        rcases handling with st | ⟨st, -⟩ <;> rw [st] <;> rfl
      have late : (s.dev.track t).state = .draining →
          ∃ c ∈ s.dev.trackClips t, p + 2 * beats.length < c.2.stop + x.settings.tailTicks := by
        intro draining
        rw [tail]
        rcases handling with st | ⟨-, -, late⟩
        · simp [draining] at st
        · exact late
      rw [offered mixes, offerMapped_short (w := s.dev.arriving id addr beats m) (d := Joined s.dev id addr beats m) good lacks hh]
      obtain ⟨y, e, he, mixed, underruns, counters, below, last⟩ :=
        forward_starves (d := Joined s.dev id addr beats m) cursor queue few hh mixes late
      rw [← he]
      exact ⟨e, y, rfl, mixed.queue, mixed.pool, mixed.body, mixed.cursor, underruns, mixed.meter, mixed.held, counters,
        mixed.others, mixed.cuePool, mixed.windows, mixed.outstanding, mixed.engine, mixed.monitor, below, last⟩
  case held =>
    intro s tag o l t x r c resp data w rest h answering own fits holder read live parity good running holding short base cursor
      clip covered
    obtain ⟨v, hv⟩ : ∃ v, v = (SampleAnswered s.dev tag t l o resp).laneReceived t x r o resp data := ⟨_, rfl⟩
    obtain ⟨body, -⟩ := Device.laneHolder_spec holder
    have body := TrackContext.clips_eq_some.1 body
    have wanted : ∀ k ∈ neededSamples (s.dev.schedule t) h.first w.original,
        isWanted x.stagingBase (s.dev.schedule t) k.1 k.2 = true := by
      rw [base]
      exact fun k hk => isWanted_of_needed short hk
    have same := laneReceived_eq (t := t) (x := x) (o := o) (resp := resp) (data := data)
      (d := SampleAnswered s.dev tag t l o resp) clip
    rw [← hv] at same
    have staged : ∀ k ∈ neededSamples (s.dev.schedule t) h.first w.original, v.isStaged k.1 k.2 = true := fun k hk =>
      hv ▸ laneReceived_staged (d := SampleAnswered s.dev tag t l o resp) clip (wanted k hk) (covered k hk)
    have comes : ∀ u ∈ v.staged, u ∈ x.staged ∨ u.clip = r.clip ∧ x.isStaged u.clip u.index = false := fun u hu =>
      laneReceived_comes (d := SampleAnswered s.dev tag t l o resp) clip (hv ▸ hu)
    have brings : ∀ k ∈ neededSamples (s.dev.schedule t) h.first w.original, x.isStaged k.1 k.2 = false →
        sampleOf c k.1 o.addr data k.2 resp ∈ v.staged := fun k hk missing =>
      hv ▸ arrives (d := SampleAnswered s.dev tag t l o resp) clip (wanted k hk) missing
        ((covered k hk).resolve_left (by simp [missing]))
    have track : ((SampleAnswered s.dev tag t l o resp).setClips t v).track t =
        { s.dev.track t with body := .description v } := Device.track_setClips_self ..
    have mixes : (s.dev.track t).state.mixes = true := by rw [running]; rfl
    have answered := stageResponse_forwards hv parity good mixes holding (by rw [same]) staged
    obtain ⟨y, mixed, underruns, counters, -, after, reports⟩ :=
      forward_resets (d := (SampleAnswered s.dev tag t l o resp).setClips t v) (t := t) (x := v) (p := h.first) (w := w)
        (rest := rest) (by rw [same]; exact cursor) holding.1 (by rw [track]; simp [ClipTrack.degradedHandling, running])
        (by rw [track]; exact mixes) (by rw [track]; simp [running])
    refine ⟨_, y, v, _, ?_, rfl, same, fun k hk => ⟨staged k hk, fun missing => ⟨?_, ?_⟩⟩, comes, mixed.queue, mixed.pool, ?_,
      mixed.held, mixed.timer, mixed.cursor, mixed.base, underruns, mixed.meter, counters, ?_, ?_, fun u hu => ?_,
      mixed.cuePool, mixed.windows, mixed.readList, mixed.outstanding, mixed.engine, mixed.monitor, ?_⟩
    · rw [exec_sampleResponse answering own fits holder read live, answered]
    · rintro rfl
      exact brings k hk missing
    · rintro rfl
      exact brings k hk missing
    · rw [after, track]
    · rw [mixed.settings, same]
    · rw [mixed.lane, same]
    · rw [mixed.others u hu]
      exact Device.track_setClips_of_ne _ _ hu.symm
    · rw [reports]
      cases resp <;> rfl
end
end

section

/-! PROOFS. The rounding of ticks() (spec 04 section 4.6): O40. -/

namespace Sys2Proof.Machine

open Sys2Proof Sys2Proof.Safety

/-! ## Five frames last a whole number of ticks (R62) -/

/-- The ticks of five frames, a whole number at every rate, so that the ticks of any frames are whole fifths (R62). -/
def ticksPerFive (code : Nat) : Nat :=
  5 * 48000 * (rateOf code).den / (rateOf code).num

theorem ticksPerFive_mul_num (code : Nat) : ticksPerFive code * (rateOf code).num = 5 * 48000 * (rateOf code).den := by
  unfold ticksPerFive rateOf
  split <;> rfl

theorem fifths_mul_num (code f : Nat) :
    ticksPerFive code * f * (rateOf code).num = 5 * (f * 48000 * (rateOf code).den) := by
  rw [Nat.mul_right_comm, ticksPerFive_mul_num]
  ring

/-- ticks() rounds a number of fifths, whatever the rate. -/
theorem ticks_eq_fifths (code f : Nat) : ticks code f = (2 * (ticksPerFive code * f) + 5) / 10 := by
  obtain ⟨pos, -⟩ := rateOf_den_pos code
  have whole := fifths_mul_num code f
  rw [ticks, ← Nat.mul_div_mul_left _ _ (show 0 < 5 by decide), ← Nat.mul_div_mul_right _ 10 pos]
  congr 1 <;> linarith

/-- The result is less than half a tick from the exact value on either side: a value of an even number of tenths of a tick is
never halfway, which is an odd number of them. -/
theorem ticks_near_fifths (code f : Nat) :
    10 * ticks code f < 2 * (ticksPerFive code * f) + 5 ∧ 2 * (ticksPerFive code * f) < 10 * ticks code f + 5 := by
  rw [ticks_eq_fifths]
  omega

theorem ticks_near (code f : Nat) :
    2 * (ticks code f * (rateOf code).num) < 2 * (f * 48000 * (rateOf code).den) + (rateOf code).num ∧
      2 * (f * 48000 * (rateOf code).den) < 2 * (ticks code f * (rateOf code).num) + (rateOf code).num := by
  obtain ⟨pos, -⟩ := rateOf_den_pos code
  obtain ⟨below, above⟩ := ticks_near_fifths code f
  have whole := fifths_mul_num code f
  have below := Nat.mul_lt_mul_of_pos_right below pos
  have above := Nat.mul_lt_mul_of_pos_right above pos
  constructor <;> linarith

/-! ## The steps of ticks() -/

theorem ticks_five_mul_add (code q r : Nat) : ticks code (5 * q + r) = ticksPerFive code * q + ticks code r := by
  rw [ticks_eq_fifths, ticks_eq_fifths, ← Nat.mul_add_div (show 0 < 10 by decide)]
  congr 1
  ring

/-- The steps repeat every five frames, so the first five steps give them all. -/
theorem ticks_succ_of_pattern {code : Nat} {step : Nat → Nat} (h : ∀ r < 5, ticks code (r + 1) = ticks code r + step r)
    (f : Nat) : ticks code (f + 1) = ticks code f + step (f % 5) := by
  have whole : 5 * (f / 5) + f % 5 = f := Nat.div_add_mod f 5
  have first := h (f % 5) (Nat.mod_lt f (by decide))
  calc ticks code (f + 1)
    _ = ticksPerFive code * (f / 5) + ticks code (f % 5 + 1) := by rw [← ticks_five_mul_add, ← Nat.add_assoc, whole]
    _ = ticksPerFive code * (f / 5) + ticks code (f % 5) + step (f % 5) := by rw [first, Nat.add_assoc]
    _ = ticks code f + step (f % 5) := by rw [← ticks_five_mul_add, whole]

theorem ticks_succ_of_constant {code k : Nat} (h : ∀ r < 5, ticks code (r + 1) = ticks code r + k) (f : Nat) :
    ticks code (f + 1) = ticks code f + k :=
  ticks_succ_of_pattern (step := fun _ => k) h f

theorem rateOf_of_mem_rateTable {code n d : Nat} (h : (code, n, d) ∈ rateTable) :
    (rateOf code).num = n ∧ (rateOf code).den = d :=
  (show ∀ r ∈ rateTable, (rateOf r.1).num = r.2.1 ∧ (rateOf r.1).den = r.2.2 by decide) _ h

end Sys2Proof.Machine

end

section
open Sys2Proof Sys2Proof.Machine Sys2Proof.Safety

/-- Settles O40: the ticks of any frames are whole fifths, which are never halfway, and the steps repeat every
five frames as the table says. -/
theorem ticksRoundAndIncrease : Obligations.TicksRoundAndIncrease := by
  refine ⟨fun code n d f h => ?rounds, fun f => ?steps, fun code f g _ h => ticks_lt h⟩
  case rounds =>
    obtain ⟨rfl, rfl⟩ := rateOf_of_mem_rateTable h
    exact ⟨rfl, ticks_near code f⟩
  case steps =>
    exact ⟨ticks_succ_of_constant (by decide) f, ticks_succ_of_constant (by decide) f, ticks_succ_of_constant (by decide) f,
      ticks_succ_of_constant (by decide) f, ticks_succ_of_constant (by decide) f, ticks_succ_of_constant (by decide) f,
      ticks_succ_of_pattern (step := fun r => if r = 1 ∨ r = 3 then 1601 else 1602) (by decide) f,
      ticks_succ_of_pattern (step := fun r => if r = 2 then 800 else 801) (by decide) f⟩
end

section

/-! PROOFS. Drop-frame labels (spec 04 sections 4.3 and 4.4): O41. -/

namespace Sys2Proof.Machine

open Sys2Proof Sys2Proof.Safety

/-! ## Labels that are used (R57, R58) -/

/-- M: the label minutes before the minute of a label (R60). -/
def Timecode.minute (t : Timecode) : Nat :=
  t.hh * 60 + t.mm

/-- The ff of the first label used in a minute: the labels below it are the dropped ones (R58). -/
def firstUsed (code minute : Nat) : Nat :=
  if minute % 10 = 0 then 0 else (rateOf code).dropped

/-- The labels dropped up to the first one used of a minute, which R60 takes off the label count. -/
def droppedBy (code minute : Nat) : Nat :=
  (rateOf code).dropped * (minute - minute / 10)

theorem Timecode.outOfRange_eq_false_iff {code : Nat} {t : Timecode} :
    t.outOfRange code = false ↔ t.hh ≤ 23 ∧ t.mm ≤ 59 ∧ t.ss ≤ 59 ∧ t.ff < (rateOf code).nominal := by
  simp [Timecode.outOfRange, and_assoc]

theorem Timecode.isDropped_eq_false_iff {code : Nat} {t : Timecode} :
    t.isDropped code true = false ↔ (t.ss = 0 → firstUsed code t.mm ≤ t.ff) := by
  by_cases tenth : t.mm % 10 = 0 <;> simp [Timecode.isDropped, firstUsed, tenth]

theorem firstUsed_minute (code : Nat) (t : Timecode) : firstUsed code t.minute = firstUsed code t.mm := by
  rw [firstUsed, firstUsed, Timecode.minute, show (t.hh * 60 + t.mm) % 10 = t.mm % 10 by omega]

theorem droppedBy_succ (code m : Nat) : droppedBy code (m + 1) = droppedBy code m + firstUsed code (m + 1) := by
  unfold droppedBy firstUsed
  split
  next tenth => rw [show m + 1 - (m + 1) / 10 = m - m / 10 by omega, Nat.add_zero]
  next inside => rw [show m + 1 - (m + 1) / 10 = m - m / 10 + 1 by omega, Nat.mul_succ]

/-! ## The count of a label (R60) -/

theorem rateOf_dropped_lt (code : Nat) : (rateOf code).dropped < (rateOf code).nominal := by
  unfold rateOf
  split <;> decide

theorem Timecode.labelCount_eq (code : Nat) (t : Timecode) :
    t.labelCount code = (t.minute * 60 + t.ss) * (rateOf code).nominal + t.ff :=
  rfl

theorem Timecode.droppedBy_le_labelCount (code : Nat) (t : Timecode) : droppedBy code t.minute ≤ t.labelCount code :=
  calc droppedBy code t.minute
    _ ≤ (rateOf code).nominal * t.minute := Nat.mul_le_mul (rateOf_dropped_lt code).le (Nat.sub_le _ _)
    _ ≤ (rateOf code).nominal * (t.minute * 60 + t.ss) := Nat.mul_le_mul_left _ (by omega)
    _ ≤ t.labelCount code := by rw [labelCount_eq, Nat.mul_comm]; exact Nat.le_add_right _ _

theorem Timecode.frames_add_droppedBy {code : Nat} {t : Timecode} (used : t.isDropped code true = false) :
    t.frames code true + droppedBy code t.minute = t.labelCount code := by
  have count : t.frames code true = t.labelCount code - droppedBy code t.minute := by
    simp [Timecode.frames, Timecode.adjusted, used, droppedBy, Timecode.minute]
  rw [count, Nat.sub_add_cancel (t.droppedBy_le_labelCount code)]

/-- Counts are consecutive when the label counts differ by one more than the labels dropped between. -/
theorem Timecode.frames_eq_succ {code : Nat} {t u : Timecode} (ht : t.isDropped code true = false)
    (hu : u.isDropped code true = false)
    (h : u.labelCount code + droppedBy code t.minute = t.labelCount code + 1 + droppedBy code u.minute) :
    u.frames code true = t.frames code true + 1 := by
  have count := frames_add_droppedBy ht
  have next := frames_add_droppedBy hu
  omega

theorem Timecode.adjusted_isUsed (code : Nat) (t : Timecode) :
    isDropped code true { t with ff := (rateOf code).dropped } = false := by
  simp [Timecode.isDropped]

theorem Timecode.frames_of_isDropped {code : Nat} {t : Timecode} (h : t.isDropped code true = true) :
    t.frames code true = Timecode.frames code true { t with ff := (rateOf code).dropped } := by
  simp [Timecode.frames, Timecode.adjusted, h, adjusted_isUsed]

/-! ## The next label -/

/-- A label follows another in R60's counting: it is in range and used, and has the next count. -/
def Timecode.Precedes (code : Nat) (t u : Timecode) : Prop :=
  u.outOfRange code = false ∧ u.isDropped code true = false ∧ u.frames code true = t.frames code true + 1

theorem Timecode.precedes_nextFrame {code : Nat} {t : Timecode} (range : t.outOfRange code = false)
    (used : t.isDropped code true = false) (more : t.ff + 1 < (rateOf code).nominal) :
    t.Precedes code { t with ff := t.ff + 1 } := by
  have next : isDropped code true { t with ff := t.ff + 1 } = false :=
    isDropped_eq_false_iff.2 fun first => (isDropped_eq_false_iff.1 used first).trans (Nat.le_succ _)
  obtain ⟨hh, mm, ss, -⟩ := outOfRange_eq_false_iff.1 range
  exact ⟨outOfRange_eq_false_iff.2 ⟨hh, mm, ss, more⟩, next, frames_eq_succ used next rfl⟩

theorem Timecode.precedes_nextSecond {code : Nat} {t : Timecode} (range : t.outOfRange code = false)
    (used : t.isDropped code true = false) (lastFrame : t.ff + 1 = (rateOf code).nominal) (more : t.ss < 59) :
    t.Precedes code { t with ss := t.ss + 1, ff := 0 } := by
  have next : isDropped code true { t with ss := t.ss + 1, ff := 0 } = false :=
    isDropped_eq_false_iff.2 fun first => absurd first (Nat.succ_ne_zero _)
  obtain ⟨hh, mm, -, -⟩ := outOfRange_eq_false_iff.1 range
  refine ⟨outOfRange_eq_false_iff.2 ⟨hh, mm, more, lastFrame ▸ Nat.succ_pos t.ff⟩, next, frames_eq_succ used next ?_⟩
  rw [labelCount_eq, labelCount_eq, ← lastFrame]
  simp only [minute]
  ring

/-- The last label of a minute and the first one used of the next differ by one frame (R60), in an hour and across hours. -/
theorem Timecode.precedes_nextMinute {code : Nat} {t u : Timecode} (used : t.isDropped code true = false)
    (lastFrame : t.ff + 1 = (rateOf code).nominal) (lastSecond : t.ss = 59) (hh : u.hh ≤ 23) (mm : u.mm ≤ 59) (ss : u.ss = 0)
    (ff : u.ff = firstUsed code u.mm) (minute : u.minute = t.minute + 1) : t.Precedes code u := by
  have next : u.isDropped code true = false := isDropped_eq_false_iff.2 fun _ => ff.ge
  have below : u.ff < (rateOf code).nominal := by
    rw [ff, firstUsed]
    split
    · omega
    · exact rateOf_dropped_lt code
  refine ⟨outOfRange_eq_false_iff.2 ⟨hh, mm, by omega, below⟩, next, frames_eq_succ used next ?_⟩
  rw [labelCount_eq, labelCount_eq, ss, ff, ← firstUsed_minute, minute, droppedBy_succ, lastSecond, ← lastFrame]
  ring

theorem Timecode.precedes_nextLabel {code : Nat} {t : Timecode} (range : t.outOfRange code = false)
    (used : t.isDropped code true = false) (notLast : t ≠ ⟨23, 59, 59, (rateOf code).nominal - 1⟩) :
    t.Precedes code (nextLabel code t) := by
  obtain ⟨hh, mm, ss, ff⟩ := outOfRange_eq_false_iff.1 range
  unfold nextLabel
  split
  next frame => exact precedes_nextFrame range used frame
  next frame =>
    have frame : t.ff + 1 = (rateOf code).nominal := by omega
    split
    next second => exact precedes_nextSecond range used frame second
    next second =>
      have second : t.ss = 59 := by omega
      split
      next minute => exact precedes_nextMinute used frame second hh minute rfl rfl rfl
      next minute =>
        have minute : t.mm = 59 := by omega
        have hour : t.hh ≠ 23 := fun hour => notLast <| by
          show (⟨t.hh, t.mm, t.ss, t.ff⟩ : Timecode) = _
          rw [hour, minute, second, ← frame, Nat.add_sub_cancel]
        exact precedes_nextMinute used frame second (show t.hh + 1 ≤ 23 by omega) (Nat.zero_le 59) rfl rfl
          (show (t.hh + 1) * 60 + 0 = t.hh * 60 + t.mm + 1 by omega)

end Sys2Proof.Machine

end

section
open Sys2Proof Sys2Proof.Machine Sys2Proof.Safety

/-- Settles O41: the next label is used and has the next count, across the gap of a minute too. -/
theorem dropFrameLabelsAreConsecutive : Obligations.DropFrameLabelsAreConsecutive := by
  intro code t drops range
  refine ⟨fun used => ⟨?largest, Timecode.precedes_nextLabel range used⟩, Timecode.frames_of_isDropped, ?zero⟩
  case largest =>
    rintro rfl
    rcases drops with rfl | rfl <;> decide
  case zero => rcases drops with rfl | rfl <;> decide
end

section

/-! PROOFS. The cue pool (R79): no operation but the acceptance of a captured cue puts an entry into it or changes one's frames or
row. Under every other operation an entry stays as it is, is RETIRED (R101) or leaves the pool (R47, R108, R174). -/

namespace Sys2Proof.Machine

open Sys2Proof

/-- Each cue pool entry of `e` is that of `d`, as it stood or RETIRED. -/
structure Device.KeepsCues (d e : Device) : Prop where
  each : ∀ i c, e.cue i = some c → ∃ b, d.cue i = some b ∧ (c = b ∨ ∃ k, c = { b with status := .retired k })

namespace Device.KeepsCues

theorem same {d e : Device} (h : e.cuePool = d.cuePool) : d.KeepsCues e :=
  ⟨fun i c hc => ⟨c, (Device.cue_congr h i).symm.trans hc, .inl rfl⟩⟩

theorem trans {d e f : Device} (h : d.KeepsCues e) (k : e.KeepsCues f) : d.KeepsCues f := by
  refine ⟨fun i c hc => ?_⟩
  obtain ⟨b, hb, same | retired⟩ := k.each i c hc <;> obtain ⟨a, ha, same' | retired'⟩ := h.each i b hb
  · exact ⟨a, ha, .inl (same.trans same')⟩
  · exact ⟨a, ha, .inr (same ▸ retired')⟩
  · exact ⟨a, ha, .inr (same' ▸ retired)⟩
  · obtain ⟨m, rfl⟩ := retired'
    exact ⟨a, ha, .inr retired⟩

theorem before {d e f : Device} (h : e.KeepsCues f) (he : e.cuePool = d.cuePool) : d.KeepsCues f :=
  (same he).trans h

theorem andThen {d e f : Device} (h : d.KeepsCues e) (hf : f.cuePool = e.cuePool) : d.KeepsCues f :=
  h.trans (same hf)

theorem empties {d e : Device} (h : ∀ i, e.cue i = none) : d.KeepsCues e :=
  ⟨fun i _ hc => nomatch (h i).symm.trans hc⟩

theorem foldl {α : Type} {f : Device → α → Device} (hf : ∀ (d : Device) a, d.KeepsCues (f d a)) (l : List α) (d : Device) :
    d.KeepsCues (l.foldl f d) := by
  induction l generalizing d with
  | nil => exact .same rfl
  | cons a l ih => exact (hf d a).trans (ih (f d a))

/-- An ACTIVE entry stood in the pool as it stands now. -/
theorem active {d e : Device} (h : d.KeepsCues e) {i : Nat} {c : CueEntry} (hc : e.cue i = some c) (ha : c.status = .active) :
    d.cue i = some c := by
  obtain ⟨b, hb, rfl | ⟨k, rfl⟩⟩ := h.each i c hc
  · exact hb
  · cases ha

end Device.KeepsCues

/-! ## Integrity faults and the freeing of a track (R47, R173 to R176) -/

theorem Device.keepsCues_tellMonitor (d : Device) (k : ParityCause) (n : Nat) : d.KeepsCues (d.tellMonitor k n) := by
  unfold Device.tellMonitor
  split
  · exact .empties (d.enterBypass_cue k n)
  · unfold Device.repeatFault Device.rewriteWindow
    repeat' split
    all_goals exact .same rfl

theorem Device.keepsCues_readingTrack {d : Device} {t : Slot} {k : TrackContext → Device}
    (hk : d.KeepsCues (k (d.track t))) : d.KeepsCues (d.readingTrack t k) := by
  unfold Device.readingTrack
  split
  · exact hk
  · exact d.keepsCues_tellMonitor _ _

theorem Device.keepsCues_freeTrack (d : Device) (t : Slot) : d.KeepsCues (d.freeTrack t) :=
  ⟨fun i c hc => ⟨c, ((d.freeTrack_cue t i c).1 hc).1, .inl rfl⟩⟩

theorem Device.keepsCues_completeDrain (d : Device) (t : Slot) : d.KeepsCues (d.completeDrain t) := by
  unfold Device.completeDrain
  split
  · exact d.keepsCues_freeTrack t
  · exact .before (keepsCues_freeTrack ..) rfl

/-! ## Segmentation (R96 to R110) -/

/-- A close retires cues and does nothing else to them (R101). -/
theorem Device.keepsCues_closeSegment (d : Device) (t : Slot) (x : TextTrack) : d.KeepsCues (d.closeSegment t x) := by
  refine ⟨fun i c hc => ?_⟩
  rw [Device.cue_closeSegment] at hc
  obtain ⟨b, hb, rfl⟩ := Option.map_eq_some_iff.1 hc
  refine ⟨b, hb, ?_⟩
  split
  · exact .inr ⟨_, rfl⟩
  · exact .inl rfl

/-- An advance of the consume point lets cues go and does nothing else to them (R108). -/
theorem cue_releaseCues {d : Device} {t : Slot} {a b i : Nat} {c : CueEntry} :
    Device.cue { d with cuePool := releaseCues t a b d.cuePool } i = some c → d.cue i = some c := by
  simp only [Device.cue, releaseCues, Vector.getElem?_map]
  rcases d.cuePool[i]? with _ | _ | e
  · exact id
  · exact id
  · show (if e.releasedBy t a b then none else some e) = some c → _
    split
    · exact nofun
    · exact id

theorem Device.blockClose_cuePool (d : Device) (t : Slot) (x : TextTrack) : (d.blockClose t x).cuePool = d.cuePool := by
  unfold Device.blockClose
  split <;> rfl

theorem Device.keepsCues_makeCloses (n : Nat) (d : Device) (t : Slot) : d.KeepsCues (Device.makeCloses n d t) := by
  induction n generalizing d with
  | zero => exact .same rfl
  | succ n ih =>
    unfold Device.makeCloses
    split
    · exact .same rfl
    · split
      · split
        · exact (keepsCues_closeSegment ..).trans (ih _)
        · exact .same (d.blockClose_cuePool t _)
      · exact .same rfl

theorem Device.KeepsCues.decideClose {c d before : Device} (hd : c.KeepsCues d) (hb : c.KeepsCues before) (t : Slot) :
    c.KeepsCues (d.decideClose t before) := by
  cases hx : (d.track t).text with
  | none => rwa [Device.decideClose, hx]
  | some x =>
    rcases Device.decideClose_cases hx before with ⟨i, -, -, e⟩ | e <;> rw [e]
    · exact hb.trans (before.keepsCues_tellMonitor .cue i)
    · exact hd.trans (Device.keepsCues_makeCloses _ d t)

theorem Device.KeepsCues.resumeTrack {c d before : Device} (hd : c.KeepsCues d) (hb : c.KeepsCues before) (t : Slot)
    (x : TextTrack) (k : ResumeCause) : c.KeepsCues (d.resumeTrack t x k before) := by
  refine .decideClose (hd.trans ?_) hb t
  exact .same rfl

theorem Device.KeepsCues.afterAdvance {c d before : Device} (hd : c.KeepsCues d) (hb : c.KeepsCues before) (t : Slot)
    (x : TextTrack) : c.KeepsCues (d.afterAdvance t x before) := by
  unfold Device.afterAdvance
  split
  case h_4 =>
    split
    · exact hd.resumeTrack hb t x .auto
    · exact hd
  case h_6 =>
    split
    · exact hd.decideClose hb t
    · split
      · exact hd.trans (d.keepsCues_completeDrain t)
      · exact hd
  all_goals exact hd

theorem Device.keepsCues_consumeSlot (d : Device) (t : Slot) (x : TextTrack) (i : Nat) :
    d.KeepsCues (d.consumeSlot t x i) := by
  unfold Device.consumeSlot
  dsimp only
  split
  · split
    · exact d.keepsCues_tellMonitor _ _
    · refine .afterAdvance ⟨fun j c hc => ⟨c, ?_, .inl rfl⟩⟩ (.same rfl) t _
      exact cue_releaseCues hc
  · exact .same rfl

theorem Device.keepsCues_indexTrailerRead (d : Device) (t : Slot) (i : Nat) : d.KeepsCues (d.indexTrailerRead t i) := by
  unfold Device.indexTrailerRead
  split
  · exact .same rfl
  · refine keepsCues_readingTrack ?_
    split
    · unfold Device.trailerReadIn
      split
      case h_4 => exact keepsCues_consumeSlot ..
      all_goals exact .same rfl
    · exact .same rfl

theorem Device.keepsCues_recordResponse (d : Device) (t : Slot) (o : Outstanding) (resp : Resp) :
    d.KeepsCues (d.recordResponse t o resp) := by
  unfold Device.recordResponse
  split
  · exact .same rfl
  · split
    · exact .same rfl
    · split
      · split
        · exact keepsCues_readingTrack (.same rfl)
        · exact .before (keepsCues_readingTrack (.same rfl)) rfl
      · exact .same rfl

/-! ## The lanes (R141 to R161) -/

theorem Device.laneRefresh_cuePool (d : Device) (t : Slot) : (d.laneRefresh t).cuePool = d.cuePool := by
  rcases d.laneRefresh_cases t with e | ⟨x, -, -, e⟩
  · rw [e]
  · rw [e]
    rfl

theorem Device.keepsCues_laneReads (d : Device) (t : Slot) : d.KeepsCues (d.laneReads t) := by
  rcases d.laneReads_cases t with ⟨-, e⟩ | ⟨i, -, -, e⟩ | ⟨-, -, e⟩ <;> rw [e]
  · exact .same rfl
  · exact d.keepsCues_tellMonitor _ _
  · exact .same (d.laneRefresh_cuePool t)

theorem Device.countBurst_cuePool (d : Device) (t : Slot) (s : Supply) (ends : Bool) :
    (d.countBurst t s ends).cuePool = d.cuePool := by
  unfold Device.countBurst Device.recoverLane Device.underrunBurst Device.degradeLane
  dsimp only
  repeat' split
  all_goals rfl

theorem Device.keepsCues_endDrain (d : Device) (t : Slot) : d.KeepsCues (d.endDrain t) := by
  unfold Device.endDrain
  split
  · exact d.keepsCues_completeDrain t
  · exact .same rfl

theorem Device.keepsCues_forward (d : Device) (t : Slot) (x : ClipTrack) (p : Nat) (w : QueuedWrite) (s : Supply) :
    d.KeepsCues (d.forward t x p w s) :=
  .before (keepsCues_endDrain ..) ((Device.laneRefresh_cuePool ..).trans (Device.countBurst_cuePool ..))

theorem Device.keepsCues_tellThenAnswer (d : Device) (k : ParityCause) (n : Nat) (beats : List Beat) :
    d.KeepsCues ((d.tellMonitor k n).answerHead beats) :=
  (d.keepsCues_tellMonitor k n).andThen rfl

theorem Device.keepsCues_offerMapped (d : Device) (t : Slot) (x : ClipTrack) (p : Nat) (w : QueuedWrite) :
    d.KeepsCues (d.offerMapped t x p w) := by
  unfold Device.offerMapped
  split
  · exact keepsCues_tellThenAnswer ..
  · dsimp only
    repeat' split
    case isFalse.isFalse.isFalse => exact .same (Device.laneRefresh_cuePool ..)
    all_goals exact keepsCues_forward ..

theorem Device.keepsCues_offer (d : Device) (t : Slot) (w : QueuedWrite) : d.KeepsCues (d.offer t w) := by
  unfold Device.offer Device.offerLane
  split
  · split
    · exact .same rfl
    · dsimp only
      split
      · split
        · exact .same rfl
        · exact keepsCues_offerMapped ..
      · exact .same rfl
  · exact keepsCues_tellThenAnswer ..

theorem Device.keepsCues_offerHead (d : Device) : d.KeepsCues d.offerHead := by
  unfold Device.offerHead
  split
  · exact .same rfl
  · split
    · split
      · exact .same rfl
      · exact keepsCues_offer ..
    · exact .same rfl

theorem Device.keepsCues_endHold (d : Device) (t : Slot) (x : ClipTrack) (h : HeldMapping) (w : QueuedWrite) (s : Supply) :
    d.KeepsCues (d.endHold t x h w s) := by
  unfold Device.endHold
  split
  · exact keepsCues_tellThenAnswer ..
  · exact keepsCues_forward ..

theorem Device.keepsCues_completionTest (d : Device) (t : Slot) : d.KeepsCues (d.completionTest t) := by
  unfold Device.completionTest
  split
  · exact .same rfl
  · split
    · exact .same rfl
    · split
      · exact keepsCues_endHold ..
      · exact .same rfl

theorem Device.keepsCues_timerExpires (d : Device) : d.KeepsCues d.timerExpires := by
  unfold Device.timerExpires
  split
  · exact .same rfl
  · unfold Device.expireHold
    split
    · exact .same rfl
    · split
      case h_3 =>
        refine keepsCues_readingTrack ?_
        split
        · exact keepsCues_endHold ..
        · exact .same rfl
      all_goals exact .same rfl

theorem Device.keepsCues_stageResponse (d : Device) (t : Slot) (x : ClipTrack) (r : SampleRead) (o : Outstanding)
    (resp : Resp) (data : List Word) : d.KeepsCues (d.stageResponse t x r o resp data) := by
  refine keepsCues_readingTrack ?_
  split
  · exact d.keepsCues_tellMonitor _ _
  · exact .before (keepsCues_completionTest ..) (Device.laneRefresh_cuePool ..)

theorem Device.keepsCues_sampleResponse (d : Device) (l : LaneNo) (o : Outstanding) (resp : Resp) (data : List Word) :
    d.KeepsCues (d.sampleResponse l o resp data) := by
  unfold Device.sampleResponse
  split
  · exact .same rfl
  · split
    · exact .before (keepsCues_laneReads ..) rfl
    · split
      · exact keepsCues_stageResponse ..
      · exact .before (keepsCues_stageResponse ..) rfl

theorem Device.keepsCues_prefetched (d : Device) (tag : Nat) (resp : Resp) (data : List Word) :
    d.KeepsCues (d.prefetched tag resp data) := by
  unfold Device.prefetched
  split
  · exact .same rfl
  · split
    case h_4 =>
      split
      · exact .before (keepsCues_sampleResponse ..) rfl
      · exact .same rfl
    all_goals exact .same rfl

/-! ## Clip intake (R115 to R127) -/

theorem Device.keepsCues_takeClip (d : Device) (t : Slot) (x : ClipTrack) (n : Nat) (r : ClipRecord) :
    d.KeepsCues (d.takeClip t x n r) := by
  unfold Device.takeClip
  split
  · exact .same rfl
  · exact d.keepsCues_tellMonitor _ _
  · exact .before (keepsCues_completionTest ..) (Device.laneRefresh_cuePool ..)

theorem Device.keepsCues_captureClip (d : Device) (t : Slot) (n : Nat) (r : ClipRecord) :
    d.KeepsCues (d.captureClip t n r) := by
  unfold Device.captureClip
  split
  · exact .same rfl
  · refine keepsCues_readingTrack ?_
    split
    case h_3 | h_5 => exact keepsCues_takeClip ..
    all_goals exact .same rfl

theorem Device.keepsCues_partialClipWrite (d : Device) (t : Slot) : d.KeepsCues (d.partialClipWrite t) := by
  unfold Device.partialClipWrite
  split
  · exact .same rfl
  · refine keepsCues_readingTrack ?_
    split <;> exact .same rfl

/-! ## The through-path (spec 01) -/

theorem Device.keepsCues_matchBurst (d : Device) (a : Addr) : d.KeepsCues (d.matchBurst a).1 := by
  unfold Device.matchBurst
  split
  · exact .same rfl
  · exact .foldl (fun e (j : EntryNo) => e.keepsCues_tellMonitor .window j.val) _ d

theorem Device.controlWrite_cuePool (d : Device) (base addr : Addr) (beats : List Beat) :
    (d.controlWrite base addr beats).cuePool = d.cuePool := by
  unfold Device.controlWrite Device.captureDirective
  dsimp only
  repeat' split
  all_goals rfl

theorem Device.keepsCues_readArrives (d : Device) (id : Nat) (addr : Addr) (count : Nat) :
    d.KeepsCues (d.readArrives id addr count) := by
  unfold Device.readArrives
  split
  · exact (d.keepsCues_matchBurst addr).andThen rfl
  · exact .same rfl

theorem Device.keepsCues_throughWrite (d : Device) (tag : Nat) (resp : Resp) :
    d.KeepsCues (d.throughWrite tag resp) := by
  unfold Device.throughWrite
  repeat' split
  all_goals exact .same rfl

theorem Device.reportTrailerRead_cuePool (d : Device) (n : Nat) : (d.reportTrailerRead n).cuePool = d.cuePool := by
  unfold Device.reportTrailerRead
  repeat' split
  all_goals rfl

theorem Device.keepsCues_trailerRead (d : Device) (w : Window) (n : Nat) : d.KeepsCues (d.trailerRead w n) := by
  unfold Device.trailerRead
  split
  case h_2 => exact .same (d.reportTrailerRead_cuePool n)
  case h_4 =>
    split
    · exact .same rfl
    · exact keepsCues_indexTrailerRead ..
  all_goals exact .same rfl

theorem Device.keepsCues_watchEvents (d : Device) (found : Option WindowMatch) (a : Addr) (count : Nat) :
    d.KeepsCues (d.watchEvents found a count) := by
  unfold Device.watchEvents
  split
  · exact .same rfl
  · next m => exact .foldl (fun e n => e.keepsCues_trailerRead m.window n) _ d

theorem Device.keepsCues_throughRead (d : Device) (tag : Nat) (resp : Resp) (data : List Word) :
    d.KeepsCues (d.throughRead tag resp data) := by
  unfold Device.throughRead
  split
  · exact .same rfl
  · next o _ =>
    split
    case h_1 id found _ =>
      split
      · unfold Device.readAnswered
        split
        · exact .andThen (.before (keepsCues_watchEvents (d.answered o.tag) found o.addr o.count) rfl) rfl
        · exact .same rfl
      · exact .same rfl
    all_goals exact .same rfl

/-! ## The report writer (spec 10) -/

theorem Device.switchRing_cuePool (d : Device) (x : Directive) : (d.switchRing x).cuePool = d.cuePool := by
  unfold Device.switchRing
  split <;> rfl

theorem Device.reportEnded_cuePool (d : Device) : d.reportEnded.cuePool = d.cuePool := by
  unfold Device.reportEnded
  split
  · rfl
  · exact d.switchRing_cuePool _

theorem Device.reportResponse_cuePool (d : Device) (tag : Nat) (resp : Resp) :
    (d.reportResponse tag resp).cuePool = d.cuePool := by
  unfold Device.reportResponse
  split
  · rfl
  · split
    case h_2 => split <;> rfl
    case h_3 | h_5 | h_6 =>
      split
      · exact Device.reportEnded_cuePool _
      · rfl
    all_goals rfl

theorem Device.reportWritten_cuePool (d : Device) (tag : Nat) (resp : Resp) :
    (d.reportWritten tag resp).cuePool = d.cuePool := by
  unfold Device.reportWritten
  split
  · rfl
  · split
    case h_6 => exact (d.answered tag).reportResponse_cuePool tag resp
    all_goals rfl

theorem Device.beginReport_cuePool (d : Device) : d.beginReport.cuePool = d.cuePool := by
  unfold Device.beginReport
  split <;> rfl

/-! ## The other responses (R38, R104) -/

theorem Device.keepsCues_recordWritten (d : Device) (tag : Nat) (resp : Resp) :
    d.KeepsCues (d.recordWritten tag resp) := by
  unfold Device.recordWritten
  split
  · exact .same rfl
  · split
    case h_5 => exact .before (keepsCues_recordResponse ..) rfl
    all_goals exact .same rfl

theorem Device.validate_cuePool (d : Device) (t : Slot) (x : Directive) (bs : List Byte) :
    (d.validate t x bs).cuePool = d.cuePool := by
  unfold Device.validate Device.takeDescriptor
  repeat' split
  all_goals rfl

theorem Device.keepsCues_descriptorAnswer (d : Device) (t : Slot) (n : BitVec 16) (resp : Resp) (data : List Word) :
    d.KeepsCues (d.descriptorAnswer t n resp data) := by
  refine keepsCues_readingTrack ?_
  split
  case h_1 =>
    split
    · split
      · exact .same (d.validate_cuePool ..)
      · exact .same rfl
    · exact .same rfl
  all_goals exact .same rfl

theorem Device.keepsCues_descriptorArrives (d : Device) (tag : Nat) (resp : Resp) (data : List Word) :
    d.KeepsCues (d.descriptorArrives tag resp data) := by
  unfold Device.descriptorArrives
  split
  · exact .same rfl
  · split
    case h_3 =>
      split
      · exact .before (keepsCues_descriptorAnswer ..) rfl
      · exact .same rfl
    all_goals exact .same rfl

/-! ## The arbiter (R15) -/

theorem Device.keepsCues_issueSamples (d : Device) (who : Requester) (l : LaneNo) :
    d.KeepsCues (d.issueSamples who l) := by
  unfold Device.issueSamples
  split
  · exact .same rfl
  · exact .before (keepsCues_laneReads ..) rfl

theorem Device.keepsCues_grantTo (d : Device) (r : Requester) : d.KeepsCues (d.grantTo r) := by
  cases r with
  | urgentPrefetch =>
    show d.KeepsCues d.grantUrgent
    unfold Device.grantUrgent
    split
    · exact .same rfl
    · exact keepsCues_issueSamples ..
  | throughPath =>
    show d.KeepsCues d.grantThrough
    unfold Device.grantThrough
    split
    · exact .same rfl
    · exact .before (keepsCues_offerHead _) rfl
    · exact .same rfl
  | recordWriter =>
    show d.KeepsCues d.grantRecord
    unfold Device.grantRecord
    repeat' split
    all_goals exact .same rfl
  | descriptorReads =>
    show d.KeepsCues d.grantDescriptor
    unfold Device.grantDescriptor
    repeat' split
    all_goals exact .same rfl
  | ordinaryPrefetch =>
    show d.KeepsCues d.grantOrdinary
    unfold Device.grantOrdinary
    split
    · exact .same rfl
    · exact .before (keepsCues_issueSamples ..) rfl
  | reportWriter =>
    show d.KeepsCues d.grantReport
    unfold Device.grantReport
    split <;> exact .same rfl

theorem Device.keepsCues_grant (d : Device) : d.KeepsCues d.grant := by
  unfold Device.grant
  split
  · split
    · exact .same rfl
    · exact .before (keepsCues_grantTo ..) rfl
  · exact .same rfl

/-! ## Directives (spec 02, spec 03) -/

theorem Device.keepsCues_takeDirective {k : DirectiveKind} {run : Device → Directive → Device}
    (hr : ∀ (e : Device) x, e.KeepsCues (run e x)) (d : Device) : d.KeepsCues (d.takeDirective k run) := by
  rcases d.takeDirective_cases k run with ⟨q, rest, -, -, -, -, e⟩ | e | e <;> rw [e]
  · exact .before (hr _ _) rfl
  · exact .before (keepsCues_tellMonitor ..) rfl
  · exact .same rfl

/-- A track directive, by what it does to a slot. -/
theorem Device.keepsCues_trackDirective {run : Device → Directive → Slot → TrackContext → Device}
    (hr : ∀ (e : Device) x t c, e.KeepsCues (run e x t c)) (k : DirectiveKind) (d : Device) :
    d.KeepsCues (d.takeDirective k fun e x => e.dispatch x (run e x)) := by
  refine keepsCues_takeDirective (fun e x => ?_) d
  unfold Device.dispatch
  split
  · exact .same rfl
  · split
    · exact .same rfl
    · exact keepsCues_readingTrack (hr ..)

/-- FLUSH TRACK, RETUNE TRACK and RESUME TRACK, by what they do to a track that passes their checks. -/
theorem Device.keepsCues_onText {d : Device} {run : TextTrack → Device} {applies : Bool} (hr : ∀ y, d.KeepsCues (run y))
    (x : Directive) (c : TrackContext) : d.KeepsCues (d.onText x c fun y => d.inState x applies (run y)) := by
  unfold Device.onText Device.inState
  repeat' split
  case h_5.isTrue => exact hr _
  all_goals exact .same rfl

theorem Device.keepsCues_openTrack (d : Device) (x : Directive) (t : Slot) (c : TrackContext) :
    d.KeepsCues (d.openTrack x t c) := by
  unfold Device.openTrack
  repeat' split
  all_goals exact .same rfl

theorem Device.keepsCues_drainText (d : Device) (t : Slot) (y : TextTrack) : d.KeepsCues (d.drainText t y) := by
  unfold Device.drainText
  split
  · exact d.keepsCues_tellMonitor _ _
  · refine .decideClose ?_ (.same rfl) t
    exact .same rfl

theorem Device.keepsCues_closeTrack (d : Device) (x : Directive) (t : Slot) (c : TrackContext) :
    d.KeepsCues (d.closeTrack x t c) := by
  unfold Device.closeTrack
  split
  case h_3 | h_6 => exact keepsCues_drainText ..
  case h_4 | h_9 => exact .before (keepsCues_endDrain ..) rfl
  all_goals exact .same rfl

theorem Device.keepsCues_flushTrack (d : Device) (x : Directive) (t : Slot) (c : TrackContext) :
    d.KeepsCues (d.flushTrack x t c) := by
  refine keepsCues_onText (fun y => ?_) x c
  unfold Device.flushTo
  dsimp only
  repeat' split
  case isFalse.isTrue =>
    refine .decideClose ?_ (.same rfl) t
    exact .same rfl
  all_goals exact .same rfl

theorem Device.keepsCues_abortTrack (d : Device) (x : Directive) (t : Slot) (c : TrackContext) :
    d.KeepsCues (d.abortTrack x t c) := by
  unfold Device.abortTrack
  split
  · exact .same rfl
  · exact d.keepsCues_freeTrack t

theorem Device.keepsCues_retuneTrack (d : Device) (x : Directive) (t : Slot) (c : TrackContext) :
    d.KeepsCues (d.retuneTrack x t c) := by
  refine keepsCues_onText (fun y => ?_) x c
  split <;> exact .same rfl

theorem Device.keepsCues_resumeDirective (d : Device) (x : Directive) (t : Slot) (c : TrackContext) :
    d.KeepsCues (d.resumeDirective x t c) := by
  refine keepsCues_onText (fun y => ?_) x c
  split
  · exact .resumeTrack (.same rfl) (.same rfl) t y .resume
  · exact .same rfl

theorem Device.keepsCues_setReportRing (d : Device) (x : Directive) : d.KeepsCues (d.setReportRing x) := by
  unfold Device.setReportRing
  split
  · split
    · exact .same (d.switchRing_cuePool x)
    · exact .same rfl
  · exact .same rfl

theorem Device.keepsCues_clearBypass (d : Device) (x : Directive) : d.KeepsCues (d.clearBypass x) := by
  unfold Device.clearBypass
  split <;> exact .same rfl

end Sys2Proof.Machine

end

section

/-! PROOFS. The screen (R83) and the gap rule (R84) on lists of cues: what the rule moves, and that it keeps cues apart. -/

namespace Sys2Proof.Machine

open Sys2Proof

/-! ## Cues that share no row in a common frame (R83) -/

/-- Two cues share no row, or no frame. -/
def CueEntry.Apart (a b : CueEntry) : Prop :=
  bandsMeet a.row a.height b.row b.height = true → a.stop ≤ b.start ∨ b.stop ≤ a.start

theorem bandsMeet_comm (r1 h1 r2 h2 : Nat) : bandsMeet r1 h1 r2 h2 = bandsMeet r2 h2 r1 h1 :=
  Bool.and_comm _ _

theorem CueEntry.Apart.symm {a b : CueEntry} (h : a.Apart b) : b.Apart a :=
  fun meet => (h ((bandsMeet_comm ..).trans meet)).symm

theorem CueEntry.blocks_eq_false_iff {c : CueEntry} {start stop row height : Nat} :
    c.blocks start stop row height = false ↔
      (bandsMeet c.row c.height row height = true → stop ≤ c.start ∨ c.stop ≤ start) := by
  unfold CueEntry.blocks
  cases bandsMeet c.row c.height row height
  · simp
  · simp only [Bool.and_true, Bool.and_eq_false_iff, decide_eq_false_iff_not, not_lt, true_implies]

theorem CueEntry.apart_of_not_blocks {a b : CueEntry} (h : a.blocks b.start b.stop b.row b.height = false) : a.Apart b :=
  fun meet => (blocks_eq_false_iff.1 h meet).symm

/-- The cues of a list last at least a frame each, and no two of them share a row in a common frame (R83). -/
def OnScreen (l : List (Nat × CueEntry)) : Prop :=
  (∀ q ∈ l, q.2.start < q.2.stop) ∧ l.Pairwise fun p q => p.2.Apart q.2

theorem onScreen_cons {q : Nat × CueEntry} {l : List (Nat × CueEntry)} :
    OnScreen (q :: l) ↔ q.2.start < q.2.stop ∧ (∀ p ∈ l, p.2.Apart q.2) ∧ OnScreen l := by
  unfold OnScreen
  rw [List.forall_mem_cons, List.pairwise_cons]
  have swap : (∀ p ∈ l, q.2.Apart p.2) ↔ ∀ p ∈ l, p.2.Apart q.2 := forall₂_congr fun _ _ => ⟨.symm, .symm⟩
  rw [swap]
  tauto

theorem OnScreen.perm {l m : List (Nat × CueEntry)} (h : OnScreen l) (hm : l.Perm m) : OnScreen m :=
  ⟨fun q hq => h.1 q (hm.mem_iff.2 hq), (hm.pairwise_iff fun h => h.symm).1 h.2⟩

theorem OnScreen.apart {l : List (Nat × CueEntry)} (h : OnScreen l) {p q : Nat × CueEntry} (hp : p ∈ l) (hq : q ∈ l)
    (ne : p.1 ≠ q.1) : p.2.Apart q.2 :=
  haveI : Std.Symm fun p q : Nat × CueEntry => p.2.Apart q.2 := ⟨fun _ _ h => h.symm⟩
  h.2.forall hp hq fun e => ne (congrArg Prod.fst e)

/-! ## The gap rule, cue by cue (R84) -/

/-- The settings of the track and the frames and rows of the new cue that the gap rule uses. -/
structure GapRule where
  minGap : Nat
  openStart : Nat
  start : Nat
  row : Nat
  height : Nat

namespace GapRule

/-- Whether the rule moves a cue, between those it has taken and those it has yet to take. -/
def closes (g : GapRule) (taken : List (Nat × CueEntry)) (q : Nat × CueEntry) (rest : List (Nat × CueEntry)) : Bool :=
  gapCloses g.minGap g.openStart (taken ++ q :: rest) q g.start g.row g.height

/-- A cue as the rule leaves it. -/
def moved (g : GapRule) (taken : List (Nat × CueEntry)) (q : Nat × CueEntry) (rest : List (Nat × CueEntry)) :
    Nat × CueEntry :=
  if g.closes taken q rest then (q.1, q.2.extendTo g.start) else q

/-- The cues still to be taken, as the rule leaves them. -/
def close (g : GapRule) (taken : List (Nat × CueEntry)) : List (Nat × CueEntry) → List (Nat × CueEntry)
  | [] => []
  | q :: rest => g.moved taken q rest :: g.close (taken ++ [g.moved taken q rest]) rest

variable (g : GapRule)

theorem moved_fst (taken : List (Nat × CueEntry)) (q : Nat × CueEntry) (rest : List (Nat × CueEntry)) :
    (g.moved taken q rest).1 = q.1 := by
  unfold moved
  split <;> rfl

theorem close_keys (taken later : List (Nat × CueEntry)) : (g.close taken later).map Prod.fst = later.map Prod.fst := by
  induction later generalizing taken with
  | nil => rfl
  | cons q rest ih => exact congrArg₂ List.cons (g.moved_fst taken q rest) (ih _)

/-- A cue after the rule is one from before it, as it stood or with its end moved. -/
theorem of_mem_close {taken later : List (Nat × CueEntry)} {p : Nat × CueEntry} (h : p ∈ g.close taken later) :
    ∃ q ∈ later, p = q ∨ p = (q.1, q.2.extendTo g.start) := by
  induction later generalizing taken with
  | nil => cases h
  | cons q rest ih =>
    rcases List.mem_cons.1 h with rfl | h
    · refine ⟨q, List.mem_cons_self, ?_⟩
      unfold moved
      split
      · exact .inr rfl
      · exact .inl rfl
    · obtain ⟨q', hq', hp⟩ := ih h
      exact ⟨q', List.mem_cons_of_mem _ hq', hp⟩

/-- What becomes of one cue of a list depends on those before it as the rule left them, and on those behind it as they stood. -/
theorem close_append (taken earlier : List (Nat × CueEntry)) (q : Nat × CueEntry) (rest : List (Nat × CueEntry)) :
    ∃ front back, g.close taken (earlier ++ q :: rest) = front ++ g.moved (taken ++ front) q rest :: back ∧
      front.map Prod.fst = earlier.map Prod.fst := by
  induction earlier generalizing taken with
  | nil => exact ⟨[], _, by rw [List.append_nil]; rfl, rfl⟩
  | cons p earlier ih =>
    obtain ⟨front, back, eq, keys⟩ := ih (taken ++ [g.moved taken p (earlier ++ q :: rest)])
    refine ⟨g.moved taken p (earlier ++ q :: rest) :: front, back, ?_, congrArg₂ List.cons (g.moved_fst ..) keys⟩
    rw [List.append_assoc] at eq
    exact congrArg (List.cons _) eq

section
variable {g} {taken rest : List (Nat × CueEntry)} {q : Nat × CueEntry}

theorem ne_key (keys : ((taken ++ q :: rest).map Prod.fst).Nodup) {p : Nat × CueEntry} (hp : p ∈ taken ++ rest) :
    p.1 ≠ q.1 := by
  have perm : ((taken ++ q :: rest).map Prod.fst).Perm ((q :: (taken ++ rest)).map Prod.fst) :=
    List.perm_middle.map Prod.fst
  have fresh := (List.nodup_cons.1 (perm.nodup_iff.1 keys)).1
  exact fun e => fresh (e ▸ List.mem_map_of_mem hp)

theorem closes_iff (keys : ((taken ++ q :: rest).map Prod.fst).Nodup) :
    g.closes taken q rest = true ↔ q.2.stop < g.start ∧ g.start - q.2.stop < g.minGap ∧
      bandsMeet q.2.row q.2.height g.row g.height = true ∧ g.openStart ≤ q.2.stop ∧
      ∀ p ∈ taken ++ rest, p.2.blocks q.2.stop g.start q.2.row q.2.height = false := by
  have others : (∀ p ∈ taken ++ q :: rest, (p.1 == q.1 || !p.2.blocks q.2.stop g.start q.2.row q.2.height) = true) ↔
      ∀ p ∈ taken ++ rest, p.2.blocks q.2.stop g.start q.2.row q.2.height = false := by
    have mem : ∀ p, p ∈ taken ++ q :: rest ↔ p = q ∨ p ∈ taken ++ rest := fun p =>
      List.perm_middle.mem_iff.trans List.mem_cons
    refine ⟨fun h p hp => ?_, fun h p hp => ?_⟩
    · simpa [ne_key keys hp] using h p ((mem p).2 (.inr hp))
    · rcases (mem p).1 hp with rfl | hp
      · simp
      · simp [h p hp]
  simp only [closes, gapCloses, Bool.and_eq_true, decide_eq_true_eq, List.all_eq_true, others, and_assoc]

/-- The next cue is found by its number, and the rule writes it alone. -/
theorem closeGaps_cons (keys : ((taken ++ q :: rest).map Prod.fst).Nodup) (order : List Nat) (n : Nat) :
    closeGaps g.minGap g.openStart g.start g.row g.height (q.1 :: order) (taken ++ q :: rest) n =
      closeGaps g.minGap g.openStart g.start g.row g.height order (taken ++ g.moved taken q rest :: rest)
        (n + if g.closes taken q rest then 1 else 0) := by
  have found : (taken ++ q :: rest).find? (fun c => c.1 == q.1) = some q := by
    have notTaken : taken.find? (fun c => c.1 == q.1) = none := List.find?_eq_none.2 fun p hp =>
      by simpa using ne_key keys (List.mem_append_left rest hp)
    rw [List.find?_append, notTaken]
    simp
  have written : (taken ++ q :: rest).map (fun c => if c.1 == q.1 then (c.1, c.2.extendTo g.start) else c) =
      taken ++ (q.1, q.2.extendTo g.start) :: rest := by
    have others : ∀ l : List (Nat × CueEntry), (∀ p ∈ l, p ∈ taken ++ rest) →
        l.map (fun c => if c.1 == q.1 then (c.1, c.2.extendTo g.start) else c) = l := fun l hl => by
      refine (List.map_congr_left fun p hp => ?_).trans (List.map_id l)
      exact if_neg (by simpa using ne_key keys (hl p hp))
    rw [List.map_append, List.map_cons, others taken fun p hp => List.mem_append_left _ hp,
      others rest fun p hp => List.mem_append_right _ hp]
    simp
  rw [closeGaps, found]
  show (if g.closes taken q rest = true then _ else _) = _
  unfold moved
  split
  · rw [written]
  · rfl

theorem moved_eq_iff (keys : ((taken ++ q :: rest).map Prod.fst).Nodup) :
    g.moved taken q rest = q ↔ g.closes taken q rest = false := by
  unfold moved
  cases closes : g.closes taken q rest
  · simp
  · have longer := ((closes_iff keys).1 closes).1
    refine ⟨fun e => ?_, nofun⟩
    have same : g.start = q.2.stop := congrArg (fun p : Nat × CueEntry => p.2.stop) e
    omega

theorem keys_moved (keys : ((taken ++ q :: rest).map Prod.fst).Nodup) :
    ((taken ++ [g.moved taken q rest] ++ rest).map Prod.fst).Nodup := by
  rw [List.append_assoc]
  simpa [g.moved_fst] using keys

end

/-- The rule over a whole list: each cue as the rule leaves it, and the number of those moved. -/
theorem closeGaps_eq (later taken : List (Nat × CueEntry)) (keys : ((taken ++ later).map Prod.fst).Nodup) (n : Nat) :
    closeGaps g.minGap g.openStart g.start g.row g.height (later.map Prod.fst) (taken ++ later) n =
      (taken ++ g.close taken later, n + (later.filter fun q => decide (q ∉ g.close taken later)).length) := by
  induction later generalizing taken n with
  | nil => rfl
  | cons q rest ih =>
    have fresh : q.1 ∉ rest.map Prod.fst := by
      rw [List.map_append] at keys
      exact (List.nodup_cons.1 keys.of_append_right).1
    have kept : q ∈ g.close taken (q :: rest) ↔ g.closes taken q rest = false := by
      rw [← moved_eq_iff keys, close, List.mem_cons, eq_comm]
      refine or_iff_left fun h => fresh ?_
      rw [← g.close_keys (taken ++ [g.moved taken q rest])]
      exact List.mem_map_of_mem h
    have others : (rest.filter fun p => decide (p ∉ g.close taken (q :: rest))) =
        rest.filter fun p => decide (p ∉ g.close (taken ++ [g.moved taken q rest]) rest) := by
      refine List.filter_congr fun p hp => decide_eq_decide.2 (not_congr ?_)
      rw [close, List.mem_cons]
      refine or_iff_right fun e => fresh ?_
      rw [← g.moved_fst taken q rest, ← e]
      exact List.mem_map_of_mem hp
    have next := ih _ (keys_moved (g := g) keys) (n + if g.closes taken q rest then 1 else 0)
    rw [List.append_assoc] at next
    rw [List.map_cons, closeGaps_cons keys]
    refine next.trans (Prod.ext ?_ ?_)
    · exact List.append_assoc ..
    · show n + _ + _ = n + _
      rw [List.filter_cons, others]
      cases closes : g.closes taken q rest
      · simp [kept.2 closes]
      · simp [kept, closes]
        omega

/-! ## The gap rule keeps cues apart (R83, R84) -/

/-- A cue whose gap is closed ends where the new cue starts, and meets no other cue on the way. -/
theorem onScreen_moved {new q : Nat × CueEntry} {taken rest : List (Nat × CueEntry)} (hn : new.2.start = g.start)
    (keys : ((taken ++ q :: rest).map Prod.fst).Nodup) (h : OnScreen (new :: (taken ++ q :: rest))) :
    OnScreen (new :: (taken ++ g.moved taken q rest :: rest)) := by
  unfold moved
  cases closes : g.closes taken q rest with
  | false => exact h
  | true =>
    obtain ⟨ends, -, -, -, free⟩ := (closes_iff keys).1 closes
    obtain ⟨lasts, apart, others⟩ := onScreen_cons.1 (h.perm (List.perm_middle (l₁ := new :: taken)))
    refine .perm (onScreen_cons.2 ⟨?lasts, ?apart, others⟩) (List.perm_middle (l₁ := new :: taken)).symm
    case lasts => exact lasts.trans ends
    case apart =>
      rintro p hp meet
      rcases List.mem_cons.1 hp with rfl | inside
      · exact .inr hn.ge
      · have before := apart p hp meet
        have between := CueEntry.blocks_eq_false_iff.1 (free p inside) meet
        have lastsP := others.1 p hp
        show p.2.stop ≤ q.2.start ∨ g.start ≤ p.2.start
        omega

theorem onScreen_close {new : Nat × CueEntry} (hn : new.2.start = g.start) {taken later : List (Nat × CueEntry)}
    (keys : ((taken ++ later).map Prod.fst).Nodup) (h : OnScreen (new :: (taken ++ later))) :
    OnScreen (new :: (taken ++ g.close taken later)) := by
  induction later generalizing taken with
  | nil => exact h
  | cons q rest ih =>
    have step := g.onScreen_moved hn keys h
    rw [List.append_cons] at step
    rw [close, List.append_cons]
    exact ih (keys_moved keys) step

end GapRule

end Sys2Proof.Machine

end

section

/-! PROOFS. The acceptance of a captured cue (spec 05 steps 2 to 10): the decision, the pool after it, and the screen it keeps. -/

namespace Sys2Proof.Machine

open Sys2Proof Sys2Proof.Safety

/-! ## The pool after cues are written (R79) -/

theorem writeCues_of_notMem {cues : List (Nat × CueEntry)} {i : Nat} (h : ∀ q ∈ cues, q.1 ≠ i)
    (pool : Vector (Option CueEntry) 256) : (writeCues pool cues)[i]? = pool[i]? := by
  induction cues generalizing pool with
  | nil => rfl
  | cons q cues ih =>
    obtain ⟨hq, rest⟩ := List.forall_mem_cons.1 h
    exact (ih rest _).trans (Vector.getElem?_setIfInBounds_ne hq)

theorem writeCues_of_mem {cues : List (Nat × CueEntry)} (keys : (cues.map Prod.fst).Nodup) {i : Nat} (hi : i < 256)
    {c : CueEntry} (h : (i, c) ∈ cues) (pool : Vector (Option CueEntry) 256) : (writeCues pool cues)[i]? = some (some c) := by
  induction cues generalizing pool with
  | nil => cases h
  | cons q cues ih =>
    obtain ⟨fresh, rest⟩ := List.nodup_cons.1 keys
    rcases List.mem_cons.1 h with rfl | h
    · have notMem : ∀ q ∈ cues, q.1 ≠ i := fun q hq e => fresh (List.mem_map.2 ⟨q, hq, e⟩)
      exact (writeCues_of_notMem notMem _).trans (Vector.getElem?_setIfInBounds_self_of_lt hi)
    · exact ih rest h _

theorem Device.cue_lt {d : Device} {i : Nat} {c : CueEntry} (h : d.cue i = some c) : i < 256 := by
  by_contra big
  rw [Device.cue, Vector.getElem?_eq_none (Nat.le_of_not_lt big)] at h
  cases h

theorem activeCues_keys (d : Device) (t : Slot) : ((d.activeCues t).map Prod.fst).Nodup := by
  refine (activeCues_nodup d t).map_on fun p hp q hq e => Prod.ext e ?_
  have hp := (Device.mem_activeCues.1 hp).1
  have hq := (Device.mem_activeCues.1 hq).1
  rw [e, hq] at hp
  exact (Option.some.inj hp).symm

/-! ## The decision (R76 to R86) -/

/-- The gap rule for a cue of these frames and rows on a track. -/
def TextTrack.gapRule (x : TextTrack) (start row height : Nat) : GapRule :=
  ⟨x.settings.minGap, x.openStart, start, row, height⟩

/-- The entry of a cue placed on a row (R79, R85, R88). -/
def placedCue (t : Slot) (x : TextTrack) (n : Nat) (r : CueRecord) (start stop : Nat) (flags : CueFlags) (row : Nat) :
    CueEntry where
  track := t
  intakeSlot := n
  hostId := r.hostId
  start := start
  stop := stop
  row := row
  height := r.height
  style := r.style
  flags :=
    { flags with
      moved := r.clampedRow || decide ((candidateRows r.anchor r.anchorRow r.height).head? ≠ some row)
      overrate := overRate x.settings.rate.code x.settings.cps (characters r.text) (stop - start)
      overwidth := (textLines r.text).any fun l => decide (x.settings.columns < characters l) }
  arrival := x.nextArrival
  status := .active
  parityOk := true

/-- The cues of a list as the gap rule leaves them, and how many it moves. -/
def GapRule.outcome (g : GapRule) (cues : List (Nat × CueEntry)) : List (Nat × CueEntry) × Nat :=
  (g.close [] cues, (cues.filter fun q => decide (q ∉ g.close [] cues)).length)

section
variable {d : Device} {t : Slot} {x : TextTrack} {n : Nat} {r : CueRecord} {adjusted : Bool} {number start stop : Nat}
  {flags : CueFlags}

/-- A cue with a free candidate row is accepted on it, and the gap rule moves the cues before it (R83, R84). -/
theorem placeCue_placed {row : Nat}
    (h : placeRow (d.activeCues t) start stop r.height (candidateRows r.anchor r.anchorRow r.height) = some row) :
    placeCue d t x n r adjusted number start stop flags =
      .accepted adjusted number (placedCue t x n r start stop flags row)
        ((x.gapRule start row r.height).outcome (d.activeCues t)).1
        ((x.gapRule start row r.height).outcome (d.activeCues t)).2 := by
  have gaps := (x.gapRule start row r.height).closeGaps_eq (d.activeCues t) [] (activeCues_keys d t) 0
  have closed : closeGaps x.settings.minGap x.openStart start row r.height ((d.activeCues t).map Prod.fst) (d.activeCues t) 0 =
      (x.gapRule start row r.height).outcome (d.activeCues t) :=
    gaps.trans (Prod.ext rfl (Nat.zero_add _))
  simp only [placeCue, h, closed]
  rfl

/-- A cue for which step 6 allocates an entry goes on to its placement (R78, R80). -/
theorem extendCue_allocated (hs : start ≤ stop) (ha : d.allocateCue t x.settings.reserve = some number)
    (hgood : d.damagedActive t = none) (late : Bool) :
    extendCue d t x n r adjusted late start stop =
      placeCue d t x n r adjusted number start (max stop (start + x.settings.minDuration))
        (intakeFlags late (decide (stop < start + x.settings.minDuration))) := by
  obtain ⟨short, ends⟩ := extended_end (minimum := x.settings.minDuration) hs
  simp only [extendCue, ha, hgood, ends]
  rw [short]
  rfl

theorem allocateCue_spec {reserve : Nat} (h : d.allocateCue t reserve = some number) : number < 256 ∧ d.cue number = none := by
  unfold Device.allocateCue at h
  split at h
  · obtain ⟨-, free, -⟩ := lowestFree_spec h
    have free : d.cuePool[number]? = some none := by simpa using free
    obtain ⟨bound, -⟩ := Vector.getElem?_eq_some_iff.1 free
    exact ⟨bound, by rw [Device.cue, free]; rfl⟩
  · cases h

end

/-- What an acceptance comes to: a free pool entry, taken by an ACTIVE cue of the track on rows that no ACTIVE cue of the track
occupies during its frames, and the other ACTIVE cues as the gap rule leaves them (R80, R83, R84, R86). -/
structure Accepts (d : Device) (t : Slot) (x : TextTrack) (number : Nat) (e : CueEntry) (others : List (Nat × CueEntry)) :
    Prop where
  lt : number < 256
  free : d.cue number = none
  track : e.track = t
  status : e.status = .active
  lasts : e.start < e.stop
  unblocked : ∀ q ∈ d.activeCues t, q.2.blocks e.start e.stop e.row e.height = false
  others : others = (x.gapRule e.start e.row e.height).close [] (d.activeCues t)

section
variable {d : Device} {t : Slot} {x : TextTrack} {n : Nat} {r : CueRecord} {adjusted a : Bool} {number i start stop moves : Nat}
  {flags : CueFlags} {e : CueEntry} {others : List (Nat × CueEntry)}

theorem accepts_of_placeCue (hf : number < 256 ∧ d.cue number = none) (hs : start < stop)
    (h : placeCue d t x n r adjusted number start stop flags = .accepted a i e others moves) : Accepts d t x i e others := by
  cases hrow : placeRow (d.activeCues t) start stop r.height (candidateRows r.anchor r.anchorRow r.height) with
  | none =>
    simp only [placeCue, hrow] at h
    cases h
  | some row =>
    rw [placeCue_placed hrow] at h
    cases h
    have clear := List.find?_some hrow
    refine ⟨hf.1, hf.2, rfl, rfl, hs, fun q hq => ?_, rfl⟩
    show q.2.blocks start stop row r.height = false
    simpa using List.all_eq_true.1 clear q hq

theorem accepts_of_extendCue {late : Bool} (hs : start < stop)
    (h : extendCue d t x n r adjusted late start stop = .accepted a i e others moves) : Accepts d t x i e others := by
  cases ha : d.allocateCue t x.settings.reserve with
  | none =>
    simp only [extendCue, ha] at h
    cases h
  | some number =>
    cases hd : d.damagedActive t with
    | some j =>
      simp only [extendCue, ha, hd] at h
      cases h
    | none =>
      rw [extendCue_allocated hs.le ha hd] at h
      exact accepts_of_placeCue (allocateCue_spec ha) (hs.trans_le (le_max_left ..)) h

/-- An accepted record passed the steps before, and its frames are in order (R75 to R77). -/
theorem accepts_of_decideCue (h : decideCue d t x n r = .accepted a i e others moves) : Accepts d t x i e others := by
  unfold decideCue at h
  split at h
  · cases h
  · unfold convertCue at h
    dsimp only at h
    split at h
    · cases h
    · next order =>
      split at h
      · cases h
      · next origin =>
        split at h
        · cases h
        · rw [lateCheckCue_eq] at h
          split at h
          · cases h
          · next late =>
            refine accepts_of_extendCue ?_ h
            rw [not_and_or, not_or] at late
            omega

end

/-! ## The screen (R83) -/

/-- On a sound device the ACTIVE cues of a track stand apart on its screen. -/
theorem onScreen_activeCues {d : Device} (h : ScreenSound d) (t : Slot) : OnScreen (d.activeCues t) := by
  obtain ⟨lasts, apart⟩ := h
  refine ⟨fun q hq => ?_, List.Nodup.pairwise_of_forall_ne (activeCues_nodup d t) fun p hp q hq ne => ?_⟩
  · obtain ⟨hq, -, active⟩ := Device.mem_activeCues.1 hq
    exact lasts q.1 q.2 hq active
  · have key : p.1 ≠ q.1 := fun e => ne (List.inj_on_of_nodup_map (activeCues_keys d t) hp hq e)
    obtain ⟨hp, tp, sp⟩ := Device.mem_activeCues.1 hp
    obtain ⟨hq, tq, sq⟩ := Device.mem_activeCues.1 hq
    exact apart p.1 q.1 p.2 q.2 key hp hq (tp.trans tq.symm) sp sq

/-- The pool that an acceptance leaves (R86). -/
def takenPool (pool : Vector (Option CueEntry) 256) (number : Nat) (e : CueEntry) (others : List (Nat × CueEntry)) :
    Vector (Option CueEntry) 256 :=
  (writeCues pool others).setIfInBounds number (some e)

/-- The device that an acceptance leaves, before the close decision of a RUNNING track (R86, R87). -/
def Device.withCue (d : Device) (t : Slot) (x : TextTrack) (adjusted : Bool) (number : Nat) (e : CueEntry)
    (others : List (Nat × CueEntry)) (moves : Nat) : Device :=
  { d.setText t (x.cueAccepted e adjusted moves) with cuePool := takenPool d.cuePool number e others }

theorem acceptCue_eq (d : Device) (t : Slot) (x : TextTrack) (adjusted : Bool) (number : Nat) (e : CueEntry)
    (others : List (Nat × CueEntry)) (moves : Nat) :
    d.acceptCue t x adjusted number e others moves =
      if (d.track t).state = .running then (d.withCue t x adjusted number e others moves).decideClose t d
      else d.withCue t x adjusted number e others moves := rfl

section
variable {d a : Device} {t : Slot} {x : TextTrack} {number : Nat} {e : CueEntry} {others : List (Nat × CueEntry)}

theorem Accepts.keys (h : Accepts d t x number e others) : others.map Prod.fst = (d.activeCues t).map Prod.fst := by
  rw [h.others, GapRule.close_keys]

theorem Accepts.fresh (h : Accepts d t x number e others) {q : Nat × CueEntry} (hq : q ∈ others) : q.1 ≠ number := by
  rintro rfl
  obtain ⟨p, hp, hpq⟩ := List.mem_map.1 (h.keys ▸ List.mem_map_of_mem hq)
  have used := (Device.mem_activeCues.1 hp).1
  rw [hpq, h.free] at used
  cases used

theorem Accepts.cue_new (h : Accepts d t x number e others) (ha : a.cuePool = takenPool d.cuePool number e others) :
    a.cue number = some e := by
  rw [Device.cue, ha, takenPool, Vector.getElem?_setIfInBounds_self_of_lt h.lt]
  rfl

theorem Accepts.cue_other (h : Accepts d t x number e others) (ha : a.cuePool = takenPool d.cuePool number e others)
    {q : Nat × CueEntry} (hq : q ∈ others) : a.cue q.1 = some q.2 := by
  obtain ⟨p, hp, hpq⟩ := List.mem_map.1 (h.keys ▸ List.mem_map_of_mem hq)
  have bound : q.1 < 256 := hpq ▸ Device.cue_lt (Device.mem_activeCues.1 hp).1
  have nodup : (others.map Prod.fst).Nodup := h.keys ▸ activeCues_keys d t
  rw [Device.cue, ha, takenPool, Vector.getElem?_setIfInBounds_ne (h.fresh hq).symm, writeCues_of_mem nodup bound hq]
  rfl

/-- The entries that are neither the new one nor an ACTIVE cue of the track stay as they were. -/
theorem Accepts.cue_same (h : Accepts d t x number e others) (ha : a.cuePool = takenPool d.cuePool number e others) {i : Nat}
    (hn : i ≠ number) (hi : ∀ q ∈ d.activeCues t, q.1 ≠ i) : a.cue i = d.cue i := by
  have outside : ∀ q ∈ others, q.1 ≠ i := fun q hq => by
    obtain ⟨p, hp, hpq⟩ := List.mem_map.1 (h.keys ▸ List.mem_map_of_mem hq)
    exact hpq ▸ hi p hp
  rw [Device.cue, ha, takenPool, Vector.getElem?_setIfInBounds_ne hn.symm, writeCues_of_notMem outside]
  rfl

theorem Accepts.track_other (h : Accepts d t x number e others) {q : Nat × CueEntry} (hq : q ∈ others) : q.2.track = t := by
  rw [h.others] at hq
  obtain ⟨p, hp, rfl | rfl⟩ := GapRule.of_mem_close _ hq <;> exact (Device.mem_activeCues.1 hp).2.1

/-- An ACTIVE cue after an acceptance is the new one, an ACTIVE one of the track, or one of another track, as it was. -/
theorem Accepts.cases (h : Accepts d t x number e others) (ha : a.cuePool = takenPool d.cuePool number e others) {i : Nat}
    {c : CueEntry} (hc : a.cue i = some c) (active : c.status = .active) :
    c.track = t ∧ (i, c) ∈ (number, e) :: others ∨ c.track ≠ t ∧ d.cue i = some c := by
  by_cases hn : i = number
  · subst hn
    obtain rfl : e = c := Option.some.inj ((h.cue_new ha).symm.trans hc)
    exact .inl ⟨h.track, List.mem_cons_self⟩
  · by_cases hi : ∀ q ∈ d.activeCues t, q.1 ≠ i
    · have same : d.cue i = some c := (h.cue_same ha hn hi).symm.trans hc
      exact .inr ⟨fun ht => hi _ (Device.mem_activeCues.2 ⟨same, ht, active⟩) rfl, same⟩
    · push Not at hi
      obtain ⟨p, hp, rfl⟩ := hi
      obtain ⟨q, hq, hqp⟩ := List.mem_map.1 (h.keys.symm ▸ List.mem_map_of_mem hp)
      have same := (h.cue_other ha hq).symm.trans (hqp ▸ hc)
      obtain rfl : q.2 = c := Option.some.inj same
      exact .inl ⟨h.track_other hq, List.mem_cons_of_mem _ (hqp ▸ hq)⟩

/-- The new cue and those that the gap rule leaves stand apart (R83, R84). -/
theorem Accepts.onScreen (h : Accepts d t x number e others) (hd : ScreenSound d) : OnScreen ((number, e) :: others) := by
  have before : OnScreen ((number, e) :: d.activeCues t) :=
    onScreen_cons.2 ⟨h.lasts, fun q hq => CueEntry.apart_of_not_blocks (h.unblocked q hq), onScreen_activeCues hd t⟩
  have after := (x.gapRule e.start e.row e.height).onScreen_close (new := (number, e)) (taken := []) rfl
    (activeCues_keys d t) before
  rwa [h.others]

/-- An acceptance keeps the screen (R83, R84). -/
theorem Accepts.screenSound (h : Accepts d t x number e others) (hd : ScreenSound d)
    (ha : a.cuePool = takenPool d.cuePool number e others) : ScreenSound a := by
  have placed := h.onScreen hd
  refine ⟨fun i c hc active => ?_, fun i j b c ne hb hc same activeB activeC => ?_⟩
  · rcases h.cases ha hc active with ⟨-, mem⟩ | ⟨-, old⟩
    · exact placed.1 _ mem
    · exact hd.1 i c old active
  · rcases h.cases ha hb activeB with ⟨trackB, memB⟩ | ⟨trackB, oldB⟩ <;>
      rcases h.cases ha hc activeC with ⟨trackC, memC⟩ | ⟨trackC, oldC⟩
    · exact placed.apart memB memC ne
    · exact absurd (same.symm.trans trackB) trackC
    · exact absurd (same.trans trackC) trackB
    · exact hd.2 i j b c ne oldB oldC same activeB activeC

end

end Sys2Proof.Machine

/-! PROOFS. No two ACTIVE cues of a track share a row in a common frame after any step (R83, R84): the acceptance of a cue keeps them
apart, and every other operation leaves the frames and rows of the cue pool alone. -/

namespace Sys2Proof.Safety

open Sys2Proof Sys2Proof.Machine

theorem ScreenSound.keeps {d e : Device} (h : ScreenSound d) (k : d.KeepsCues e) : ScreenSound e := by
  obtain ⟨lasts, apart⟩ := h
  refine ⟨fun i c hc ha => lasts i c (k.active hc ha) ha, fun i j a b ne ha hb same sa sb => ?_⟩
  exact apart i j a b ne (k.active ha sa) (k.active hb sb) same sa sb

/-! ## Captures (R71) -/

theorem ScreenSound.decideClose {d before : Device} (hd : ScreenSound d) (hb : ScreenSound before) (t : Slot) :
    ScreenSound (d.decideClose t before) := by
  cases hx : (d.track t).text with
  | none => rwa [Device.decideClose, hx]
  | some x =>
    rcases Device.decideClose_cases hx before with ⟨i, -, -, e⟩ | e <;> rw [e]
    · exact hb.keeps (before.keepsCues_tellMonitor .cue i)
    · exact hd.keeps (Device.keepsCues_makeCloses _ d t)

theorem ScreenSound.takeCue {d : Device} (h : ScreenSound d) (t : Slot) (x : TextTrack) (n : Nat) (r : CueRecord) :
    ScreenSound (d.takeCue t x n r) := by
  unfold Device.takeCue
  split
  · exact h.keeps (.same rfl)
  · exact h.keeps (Device.keepsCues_tellMonitor ..)
  · next a i e others moves decided =>
    have taken : ScreenSound (d.withCue t x a i e others moves) := (accepts_of_decideCue decided).screenSound h rfl
    rw [acceptCue_eq]
    split
    · exact taken.decideClose h t
    · exact taken

theorem ScreenSound.readingTrack {d : Device} (h : ScreenSound d) {t : Slot} {k : TrackContext → Device}
    (hk : ScreenSound (k (d.track t))) : ScreenSound (d.readingTrack t k) := by
  unfold Device.readingTrack
  split
  · exact hk
  · exact h.keeps (Device.keepsCues_tellMonitor ..)

theorem ScreenSound.captureCue {d : Device} (h : ScreenSound d) (t : Slot) (n : Nat) (r : CueRecord) :
    ScreenSound (d.captureCue t n r) := by
  unfold Device.captureCue
  split
  · exact h
  · refine h.readingTrack ?_
    split
    case h_3 | h_4 => exact h.takeCue ..
    case h_6 => exact h.keeps (.same rfl)
    all_goals exact h

theorem ScreenSound.partialCueWrite {d : Device} (h : ScreenSound d) (t : Slot) : ScreenSound (d.partialCueWrite t) := by
  unfold Device.partialCueWrite
  split
  · exact h
  · refine h.readingTrack ?_
    split <;> exact h

/-! ## The through-path (spec 01) -/

theorem ScreenSound.intakeWrite {d : Device} (h : ScreenSound d) (t : Slot) (k : WindowKind) (base addr : Addr)
    (beats : List Beat) : ScreenSound (d.intakeWrite t k base addr beats) := by
  unfold Device.intakeWrite
  dsimp only
  split
  case h_3 =>
    split
    · exact h.captureCue ..
    · exact h.partialCueWrite t
  case h_5 =>
    split
    · exact h.keeps (Device.keepsCues_captureClip ..)
    · exact h.keeps (Device.keepsCues_partialClipWrite ..)
  all_goals exact h

theorem ScreenSound.ringWrite {d : Device} (h : ScreenSound d) (id : Nat) (addr : Addr) (beats : List Beat)
    (m : WindowMatch) : ScreenSound (d.ringWrite id addr beats m) := by
  have joined : ScreenSound (d.joinQueue id addr beats (some m)) := h
  unfold Device.ringWrite
  split
  · exact joined
  · split
    · exact h
    · exact joined.intakeWrite ..

theorem ScreenSound.placeWrite {d : Device} (h : ScreenSound d) (id : Nat) (addr : Addr) (beats : List Beat)
    (found : Option WindowMatch) : ScreenSound (d.placeWrite id addr beats found) := by
  unfold Device.placeWrite
  split
  · exact h
  · unfold Device.matchedWrite
    split
    case h_1 => exact h.keeps (.same (Device.controlWrite_cuePool ..))
    case h_3 | h_5 => exact h.ringWrite ..
    all_goals exact h

theorem ScreenSound.writeArrives {d : Device} (h : ScreenSound d) (id : Nat) (addr : Addr) (beats : List Beat) :
    ScreenSound (d.writeArrives id addr beats) := by
  unfold Device.writeArrives
  split
  · have matched := h.keeps (d.keepsCues_matchBurst addr)
    exact (matched.placeWrite ..).keeps (Device.keepsCues_offerHead _)
  · exact h

/-! ## Events and commands -/

theorem screenSound_empty {d : Device} (h : ∀ i, d.cue i = none) : ScreenSound d :=
  ⟨fun i _ hc => (nomatch (h i).symm.trans hc), fun i _ _ _ _ hc => (nomatch (h i).symm.trans hc)⟩

theorem cue_held (tag i : Nat) : (Device.held tag).cue i = none := by
  simp only [Device.cue, Device.held, Vector.getElem?_replicate]
  split <;> rfl

theorem ScreenSound.ran {s s' : State} {work : Device → Device} (h : ScreenSound s.dev)
    (hw : ∀ d, ScreenSound d → ScreenSound (work d)) (e : s.ran work = .next s') : ScreenSound s'.dev := by
  cases e
  show ScreenSound (s.dev.event work)
  unfold Device.event
  split
  · exact hw { s.dev with ports := [] } h
  · exact h

/-- A command whose work puts no cue into the pool. -/
theorem ScreenSound.ran_keeps {s s' : State} {work : Device → Device} (h : ScreenSound s.dev)
    (hw : ∀ d : Device, d.KeepsCues (work d)) (e : s.ran work = .next s') : ScreenSound s'.dev :=
  h.ran (fun d hd => hd.keeps (hw d)) e

/-- An upstream burst that arrives: refused where it is none, turned away in reset, and else an event that keeps the screen. -/
theorem ScreenSound.arrival {s s' : State} {ok : Bool} {id : Nat} {work : Device → Device} (h : ScreenSound s.dev)
    (hw : ∀ d, ScreenSound d → ScreenSound (work d))
    (e : (if ok then (if s.dev.resetN then s.ran work else .next { s with dev := s.dev.turnedAway id })
      else .refused .notABurst) = Host.Outcome.next s') : ScreenSound s'.dev := by
  split at e
  · split at e
    · exact h.ran hw e
    · cases e; exact h
  · cases e

theorem ScreenSound.exec {c : Instr} {s s' : State} (h : ScreenSound s.dev) (e : exec c s = .next s') :
    ScreenSound s'.dev := by
  cases c with
  | resetAssert => cases e; exact screenSound_empty (cue_held _)
  | resetRelease cwb =>
    change execResetRelease cwb s = .next s' at e
    unfold execResetRelease at e
    split at e <;> cases e
    · exact h
    · exact screenSound_empty (cue_held s.dev.nextTag)
  | upstreamWrite id addr beats => exact h.arrival (fun _ hd => hd.writeArrives id addr beats) e
  | upstreamRead id addr count =>
    exact h.arrival (fun d hd => hd.keeps (d.keepsCues_readArrives id addr count)) e
  | memoryGrant => exact h.ran_keeps Device.keepsCues_grant e
  | holdTimerExpiry => exact h.ran_keeps Device.keepsCues_timerExpires e
  | prefetchResponse tag resp data => exact h.ran_keeps (fun d => d.keepsCues_prefetched tag resp data) e
  | throughReadResponse tag resp data => exact h.ran_keeps (fun d => d.keepsCues_throughRead tag resp data) e
  | throughWriteResponse tag resp => exact h.ran_keeps (fun d => d.keepsCues_throughWrite tag resp) e
  | descriptorResponse tag resp data => exact h.ran_keeps (fun d => d.keepsCues_descriptorArrives tag resp data) e
  | recordWriteResponse tag resp => exact h.ran_keeps (fun d => d.keepsCues_recordWritten tag resp) e
  | reportBegin => exact h.ran_keeps (fun d => .same d.beginReport_cuePool) e
  | reportWriteResponse tag resp => exact h.ran_keeps (fun d => .same (d.reportWritten_cuePool tag resp)) e
  | openTrack => exact h.ran_keeps (Device.keepsCues_trackDirective Device.keepsCues_openTrack _) e
  | closeTrack => exact h.ran_keeps (Device.keepsCues_trackDirective Device.keepsCues_closeTrack _) e
  | flushTrack => exact h.ran_keeps (Device.keepsCues_trackDirective Device.keepsCues_flushTrack _) e
  | abortTrack => exact h.ran_keeps (Device.keepsCues_trackDirective Device.keepsCues_abortTrack _) e
  | retuneTrack => exact h.ran_keeps (Device.keepsCues_trackDirective Device.keepsCues_retuneTrack _) e
  | resumeTrack => exact h.ran_keeps (Device.keepsCues_trackDirective Device.keepsCues_resumeDirective _) e
  | setReportRing => exact h.ran_keeps (Device.keepsCues_takeDirective Device.keepsCues_setReportRing) e
  | clearBypass => exact h.ran_keeps (Device.keepsCues_takeDirective Device.keepsCues_clearBypass) e
  | unknownDirective =>
    exact h.ran_keeps (Device.keepsCues_takeDirective fun d x => (.same rfl : d.KeepsCues (d.refuse x .unknown))) e

end Sys2Proof.Safety

section
open Sys2Proof Sys2Proof.Machine Sys2Proof.Safety

/-- Settles O55: an accepted cue stands on a row that is free during its frames, the gap rule moves an end only over frames that no
other cue occupies, and every other command keeps the frames and rows of the ACTIVE cues. -/
theorem stepKeepsTheScreen : Obligations.StepKeepsTheScreen := by
  rintro ⟨pending, d⟩ s' h e
  cases pending with
  | nil => cases e; exact h
  | cons c rest => exact ScreenSound.exec (c := c) (s := ⟨rest, d⟩) h e

end

end

section

/-! PROOFS. A captured cue record that passes every check (spec 05 sections 5.3 to 5.9): its pool entry, its row, its flags, the gaps
that it closes, and the counts. -/

namespace Sys2Proof.Machine

open Sys2Proof Sys2Proof.Safety

/-! ## The allocation (R80) -/

theorem lowestFree_eq {α : Type} {l : List (Option α)} {i : Nat} (free : l[i]? = some none)
    (lower : ∀ j < i, ∃ x, l[j]? = some (some x)) (k : Nat) : lowestFree k l = some (k + i) := by
  induction l generalizing i k with
  | nil => cases free
  | cons o l ih =>
    cases i with
    | zero =>
      obtain rfl : o = none := by simpa using free
      rfl
    | succ i =>
      obtain ⟨y, hy⟩ := lower 0 (Nat.succ_pos i)
      obtain rfl : o = some y := by simpa using hy
      have rest := ih (by simpa using free) (fun j hj => by simpa using lower (j + 1) (Nat.succ_lt_succ hj)) (k + 1)
      rw [lowestFree, rest, Nat.add_assoc, Nat.add_comm 1 i]

/-- The lowest-numbered free entry is allocated where the track has room under its reserve or the pool has room to spare (R80). -/
theorem allocateCue_eq {d : Device} {t : Slot} {reserve number : Nat}
    (room : (d.trackCues t).length < reserve ∨ d.cuesOwed t < 256 - d.cuesInUse) (lt : number < 256)
    (free : d.cue number = none) (lower : ∀ j < number, (d.cue j).isSome = true) :
    d.allocateCue t reserve = some number := by
  have entry : ∀ i, i < 256 → d.cuePool.toList[i]? = some (d.cue i) := fun i hi => by
    rw [Device.cue, Vector.getElem?_toList, Vector.getElem?_eq_getElem hi]
    rfl
  have lowest : lowestFree 0 d.cuePool.toList = some (0 + number) := by
    refine lowestFree_eq ((entry number lt).trans (congrArg some free)) (fun j hj => ?_) 0
    obtain ⟨c, hc⟩ := Option.isSome_iff_exists.1 (lower j hj)
    exact ⟨c, (entry j (hj.trans lt)).trans (congrArg some hc)⟩
  rw [Nat.zero_add] at lowest
  exact (if_pos room).trans lowest

/-! ## The decision -/

/-- Whether step 2 adjusts a timecode of a cue record (R58, R75). -/
def CueRecord.adjusted (r : CueRecord) (rate : RateSettings) : Bool :=
  r.start.isDropped rate.code rate.dropFrame || r.stop.isDropped rate.code rate.dropFrame

/-- A cue record that passes every check of the intake steps on a track: the frames that the late check and the minimum duration
leave it, the pool entry that step 6 allocates, and the first candidate row that is free (R74 to R83). -/
structure Passes (d : Device) (t : Slot) (x : TextTrack) (r : CueRecord) (first last start stop number row : Nat)
    (before after : List Nat) : Prop where
  valid : r.invalid x.settings.rate.code = none
  first_eq : first = r.start.frames x.settings.rate.code x.settings.rate.dropFrame
  last_eq : last = r.stop.frames x.settings.rate.code x.settings.rate.dropFrame
  order : first < last
  origin : x.settings.rate.origin < last
  limit : ticks x.settings.rate.code (last - x.settings.rate.origin) ≤ 4151263199
  late : x.openStart ≤ first - x.settings.rate.origin ∨
    x.openStart < last - x.settings.rate.origin ∧ x.tuning.late = .shift
  start_eq : start = max (first - x.settings.rate.origin) x.openStart
  stop_eq : stop = max (last - x.settings.rate.origin) (start + x.settings.minDuration)
  room : (d.trackCues t).length < x.settings.reserve ∨ d.cuesOwed t < 256 - d.cuesInUse
  lt : number < 256
  free : d.cue number = none
  lower : ∀ j < number, (d.cue j).isSome = true
  undamaged : ∀ q ∈ d.trackCues t, q.2.status = .active → q.2.parityOk = true
  candidates : candidateRows r.anchor r.anchorRow r.height = before ++ row :: after
  blocked : ∀ c ∈ before, ∃ q ∈ d.activeCues t, q.2.start < stop ∧ start < q.2.stop ∧ q.2.row < c + r.height ∧
    c < q.2.row + q.2.height
  clear : ∀ q ∈ d.activeCues t, ¬(q.2.start < stop ∧ start < q.2.stop ∧ q.2.row < row + r.height ∧
    row < q.2.row + q.2.height)

/-- The flags of a cue before its placement (R77, R78). -/
def earlyFlags (x : TextTrack) (first last start : Nat) : CueFlags :=
  intakeFlags (decide (first - x.settings.rate.origin < x.openStart))
    (decide (last - x.settings.rate.origin < start + x.settings.minDuration))

section
variable {d : Device} {t : Slot} {x : TextTrack} {r : CueRecord} {first last start stop number row n : Nat}
  {before after : List Nat}

/-- The first candidate row that is free is the one that the placement finds (R83). -/
theorem Passes.placeRow (h : Passes d t x r first last start stop number row before after) :
    placeRow (d.activeCues t) start stop r.height (candidateRows r.anchor r.anchorRow r.height) = some row := by
  have free : rowFree (d.activeCues t) start stop r.height row = true := by
    rw [← Bool.not_eq_false]
    refine fun taken => ?_
    obtain ⟨q, hq, meets⟩ := rowFree_eq_false_iff.1 taken
    exact h.clear q hq meets
  have earlier : before.find? (rowFree (d.activeCues t) start stop r.height) = none := List.find?_eq_none.2 fun c hc => by
    rw [rowFree_eq_false_iff.2 (h.blocked c hc)]
    exact Bool.false_ne_true
  rw [Machine.placeRow, h.candidates, List.find?_append, earlier, List.find?_cons_of_pos free]
  rfl

/-- A record that passes every check is accepted (R76 to R86). -/
theorem Passes.decideCue (h : Passes d t x r first last start stop number row before after) (n : Nat) :
    decideCue d t x n r = .accepted (r.adjusted x.settings.rate) number
      (placedCue t x n r start stop (earlyFlags x first last start) row)
      ((x.gapRule start row r.height).outcome (d.activeCues t)).1
      ((x.gapRule start row r.height).outcome (d.activeCues t)).2 := by
  have placed := h.placeRow
  obtain ⟨valid, rfl, rfl, order, origin, limit, late, rfl, rfl, room, lt, free, lower, undamaged, -, -, -⟩ := h
  have inLimit := mt (beyondLimit_relative_iff x.settings.rate r.stop).1 (not_lt.2 limit)
  have kept : ¬(r.start.frames x.settings.rate.code x.settings.rate.dropFrame - x.settings.rate.origin < x.openStart ∧
      (r.stop.frames x.settings.rate.code x.settings.rate.dropFrame - x.settings.rate.origin ≤ x.openStart ∨
        x.tuning.late = .drop)) := by
    rintro ⟨early, ends | drops⟩
    · omega
    · rcases late with onTime | ⟨-, shifts⟩
      · omega
      · cases shifts.symm.trans drops
  rw [decideCue_valid valid]
  refine ((if_neg (not_le.2 order)).trans ((if_neg (not_le.2 origin)).trans (if_neg inLimit))).trans ?_
  rw [lateCheckCue_eq, if_neg kept, extendCue_allocated (by omega) (allocateCue_eq room lt free lower)
    (damagedActive_eq_none undamaged)]
  exact placeCue_placed placed

/-- A cue is MOVED where it does not stand on its first candidate row, or the clamp moved its anchor row (R82, R83). -/
theorem Passes.moved_iff (h : Passes d t x r first last start stop number row before after) {flags : CueFlags} :
    (placedCue t x n r start stop flags row).flags.moved = true ↔ before ≠ [] ∨ r.anchor = 2 ∧ 16 - r.height < r.anchorRow := by
  have firstRow : (candidateRows r.anchor r.anchorRow r.height).head? ≠ some row ↔ before ≠ [] := by
    rw [h.candidates]
    cases hb : before with
    | nil => simp
    | cons c rest =>
      have ne : c ≠ row := by
        rintro rfl
        obtain ⟨q, hq, meets⟩ := h.blocked c (hb ▸ List.mem_cons_self)
        exact h.clear q hq meets
      simp [ne]
  rw [placedCue, Bool.or_eq_true, decide_eq_true_iff, firstRow, CueRecord.clampedRow, Bool.and_eq_true, decide_eq_true_iff,
    decide_eq_true_iff]
  exact or_comm

end

/-! ## The cues before the new one (R84) -/

section
variable {d a : Device} {t : Slot} {x : TextTrack} {number : Nat} {e : CueEntry} {others : List (Nat × CueEntry)}

/-- A cue of the active list is moved on its own frames and rows, the cues before it as the rule left them in the pool, and those
behind it as they stood. -/
theorem Accepts.cue_gap (h : Accepts d t x number e others) (ha : a.cuePool = takenPool d.cuePool number e others)
    {earlier later : List (Nat × CueEntry)} {i : Nat} {c : CueEntry} (split : d.activeCues t = earlier ++ (i, c) :: later) :
    ∃ closes : Bool, a.cue i = some (if closes then c.extendTo e.start else c) ∧
      (closes = true ↔ c.stop < e.start ∧ e.start - c.stop < x.settings.minGap ∧ c.row < e.row + e.height ∧
        e.row < c.row + c.height ∧ x.openStart ≤ c.stop ∧
        (∀ q ∈ earlier, ∀ f, a.cue q.1 = some f → f.blocks c.stop e.start c.row c.height = false) ∧
        ∀ q ∈ later, q.2.blocks c.stop e.start c.row c.height = false) := by
  obtain ⟨front, back, eq, frontKeys⟩ := (x.gapRule e.start e.row e.height).close_append [] earlier (i, c) later
  rw [List.nil_append, ← split, ← h.others] at eq
  have keys : ((front ++ (i, c) :: later).map Prod.fst).Nodup := by
    rw [List.map_append, frontKeys, ← List.map_append, ← split]
    exact activeCues_keys d t
  have inPool : ∀ p ∈ front, a.cue p.1 = some p.2 := fun p hp => h.cue_other ha (eq ▸ List.mem_append_left _ hp)
  have passed : (∀ p ∈ front, p.2.blocks c.stop e.start c.row c.height = false) ↔
      ∀ q ∈ earlier, ∀ f, a.cue q.1 = some f → f.blocks c.stop e.start c.row c.height = false := by
    refine ⟨fun free q hq f hf => ?_, fun free p hp => ?_⟩
    · obtain ⟨p, hp, hpq⟩ := List.mem_map.1 (frontKeys ▸ List.mem_map_of_mem hq)
      rw [← hpq, inPool p hp] at hf
      exact Option.some.inj hf ▸ free p hp
    · obtain ⟨q, hq, hqp⟩ := List.mem_map.1 (frontKeys.symm ▸ List.mem_map_of_mem hp)
      exact free q hq p.2 (hqp ▸ inPool p hp)
  refine ⟨(x.gapRule e.start e.row e.height).closes front (i, c) later, ?cue, ?iff⟩
  case cue =>
    have mem : (x.gapRule e.start e.row e.height).moved front (i, c) later ∈ others :=
      eq ▸ List.mem_append_right _ List.mem_cons_self
    have cue := h.cue_other ha mem
    rw [GapRule.moved_fst] at cue
    refine cue.trans (congrArg some ?_)
    unfold GapRule.moved
    split <;> rfl
  case iff =>
    rw [GapRule.closes_iff keys, List.forall_mem_append, bandsMeet, Bool.and_eq_true, decide_eq_true_iff, decide_eq_true_iff,
      and_assoc, ← passed]
    rfl

/-- The cues that the rule moved are those that the pool no longer holds as they stood. -/
theorem Accepts.moves_eq (h : Accepts d t x number e others) (ha : a.cuePool = takenPool d.cuePool number e others) :
    ((x.gapRule e.start e.row e.height).outcome (d.activeCues t)).2 =
      ((d.activeCues t).filter fun q => a.cue q.1 ≠ some q.2).length := by
  refine congrArg List.length (List.filter_congr fun q hq => decide_eq_decide.2 (not_congr ?_))
  rw [← h.others]
  refine ⟨fun mem => h.cue_other ha mem, fun same => ?_⟩
  obtain ⟨p, hp, hpq⟩ := List.mem_map.1 (h.keys.symm ▸ List.mem_map_of_mem hq)
  have kept := h.cue_other ha hp
  rw [hpq, same] at kept
  have : p = q := Prod.ext hpq (Option.some.inj kept).symm
  exact this ▸ hp

/-- The intake slot of an accepted cue is held (R88). -/
theorem Accepts.slotHeld (h : Accepts d t x number e others) (ha : a.cuePool = takenPool d.cuePool number e others) :
    a.slotHeld t e.intakeSlot = true := by
  refine Bool.or_eq_true_iff.2 (.inl (List.any_eq_true.2 ⟨(number, e), ?_, beq_self_eq_true _⟩))
  exact Device.mem_trackCues.2 ⟨h.cue_new ha, h.track⟩

end

/-! ## The counts (R87, R91) -/

theorem cueAccepted_eq (x : TextTrack) (e : CueEntry) (r : CueRecord) (moves : Nat) :
    x.cueAccepted e (r.adjusted x.settings.rate) moves =
      { x with
        horizon := some (max e.start (x.horizon.getD 0))
        nextArrival := x.nextArrival + 1
        counters := { x.counters with
          captured := min 65535 (x.counters.captured + 1)
          accepted := min 65535 (x.counters.accepted + 1)
          timecodeAdjusted :=
            if r.start.isDropped x.settings.rate.code x.settings.rate.dropFrame ∨
                r.stop.isDropped x.settings.rate.code x.settings.rate.dropFrame then
              min 65535 (x.counters.timecodeAdjusted + 1)
            else x.counters.timecodeAdjusted
          lateShifted := if e.flags.lateShifted then min 65535 (x.counters.lateShifted + 1) else x.counters.lateShifted
          extended := if e.flags.extended then min 65535 (x.counters.extended + 1) else x.counters.extended
          moved := if e.flags.moved then min 65535 (x.counters.moved + 1) else x.counters.moved
          overrate := if e.flags.overrate then min 65535 (x.counters.overrate + 1) else x.counters.overrate
          overwidth := if e.flags.overwidth then min 65535 (x.counters.overwidth + 1) else x.counters.overwidth
          gapClosures := min 65535 (x.counters.gapClosures + moves) } } := by
  rw [TextTrack.cueAccepted, raiseTo_eq]
  simp only [TextCounters.cueAccepted, CueRecord.adjusted, countIf, satAdd, Config.countLimit, Bool.or_eq_true]

end Sys2Proof.Machine

section
open Sys2Proof Sys2Proof.Machine Sys2Proof.Safety

/-- Settles O47: the record passes every step, so the placement finds its row, and the pool is read back after the acceptance. -/
theorem acceptedCueIsPlaced : Obligations.AcceptedCueIsPlaced := by
  intro s id addr beats m t x n r code first last start stop number row df before after reset writing kind slot whole hn unheld
    parity body state undamaged hr hcode hdf valid hfirst hlast order origin limit late hstart hstop room lt free lower
    candidates blocked clear
  subst hcode hdf
  have passes : Passes (Joined s.dev id addr beats m) t x r first last start stop number row before after :=
    ⟨valid, hfirst, hlast, order, origin, limit, late, hstart, hstop, room, lt, free, lower, undamaged, candidates, blocked,
      clear⟩
  have decided := passes.decideCue n
  have accepts := accepts_of_decideCue decided
  set entry := placedCue t x n r start stop (earlyFlags x first last start) row
  set outcome := (x.gapRule start row r.height).outcome ((Joined s.dev id addr beats m).activeCues t)
  set d := Joined s.dev id addr beats m
  have pool : (d.withCue t x (r.adjusted x.settings.rate) number entry outcome.1 outcome.2).cuePool =
      takenPool d.cuePool number entry outcome.1 := rfl
  refine ⟨d.withCue t x (r.adjusted x.settings.rate) number entry outcome.1 outcome.2, _, entry, outcome.2, ?exec, rfl,
    accepts.cue_new pool, accepts.slotHeld pool, rfl, decide_eq_true_iff, decide_eq_true_iff, passes.moved_iff, ?overrate,
    ?overwidth, rfl, ?gaps, fun i => accepts.cue_same pool, accepts.moves_eq pool, cueAccepted_eq x entry r outcome.2⟩
  case exec =>
    have taken : d.captureCue t n r = d.acceptCue t x (r.adjusted x.settings.rate) number entry outcome.1 outcome.2 := by
      rw [captureCue_taken (d := d) parity body state, Device.takeCue, decided]
    rw [exec_captureCue ⟨reset, writing, slot, whole, hn, unheld, parity⟩ kind, ← hr, taken, acceptCue_eq]
    rfl
  case overrate => exact Bool.and_eq_true_iff.trans (and_congr decide_eq_true_iff decide_eq_true_iff)
  case overwidth => exact List.any_eq_true.trans (exists_congr fun l => and_congr_right fun _ => decide_eq_true_iff)
  case gaps =>
    intro earlier i c later split
    obtain ⟨closes, cue, iff⟩ := accepts.cue_gap pool split
    exact ⟨fun h => cue.trans (congrArg some (if_pos (iff.2 h))), fun h => cue.trans (congrArg some (if_neg (mt iff.1 h)))⟩

end

end

section

/-! PROOFS. The response to a burst of a segment record (spec 06 section 6.4): what it does to the record in flight, and the track that
an ERROR faults. -/

namespace Sys2Proof.Machine

open Sys2Proof Sys2Proof.Safety

/-! ## The record in flight (R103, R104) -/

theorem recordAnswered_body {f : Flight} (h : f.answered < 8) (x : TextTrack) (tag : Nat) :
    x.recordAnswered f tag =
      { x with flight := some { f with answered := f.answered + 1, tags := f.tags.erase tag } } :=
  if_neg (by omega)

theorem recordAnswered_trailer {f : Flight} (h : f.answered = 8) (x : TextTrack) (tag : Nat) :
    x.recordAnswered f tag = x.recordDone :=
  if_pos (congrArg (· + 1) h)

theorem recordDone_cons {x : TextTrack} {r : SegmentRecord} {rest : List SegmentRecord} (h : x.records = r :: rest) :
    x.recordDone =
      { x with
        slots := x.slots.set (r.segment % x.slots.length) .written
        records := rest
        flight := if rest = [] then none else some ⟨0, 0, []⟩
        counters := { x.counters with
          recordsWritten := min 65535 (x.counters.recordsWritten + 1)
          emptyRecords := if r.fragments.isEmpty then min 65535 (x.counters.emptyRecords + 1) else x.counters.emptyRecords
          overflowRecords := if r.overflow then min 65535 (x.counters.overflowRecords + 1) else x.counters.overflowRecords
          fragmentsOmitted := min 65535 (x.counters.fragmentsOmitted + r.omitted) } } := by
  simp only [TextTrack.recordDone, h, List.isEmpty_iff (l := rest)]
  rfl

/-! ## The response -/

section
variable {d : Device} {t : Slot} {x : TextTrack} {f : Flight} {o : Outstanding}

theorem recordResponse_ok (parity : (d.track t).parityOk = true) (body : (d.track t).body = .text x)
    (flight : x.flight = some f) (mem : o.tag ∈ f.tags) :
    d.recordResponse t o .ok = d.setText t (x.recordAnswered f o.tag) := by
  simp [Device.recordResponse, TrackContext.text_eq_some.2 body, flight, mem, Device.readingTrack_good parity]

theorem recordResponse_error (parity : (d.track t).parityOk = true) (body : (d.track t).body = .text x)
    (flight : x.flight = some f) (mem : o.tag ∈ f.tags) :
    d.recordResponse t o .error = (d.post (.memoryError t none o.addr o.count)).faultTrack t .recordError := by
  simp only [Device.recordResponse, TrackContext.text_eq_some.2 body, flight, List.contains_iff_mem.2 mem, if_true]
  exact Device.readingTrack_good (d := d.post _) parity _

theorem recordResponse_discarded (body : (d.track t).body = .text x) (stale : ∀ f, x.flight = some f → o.tag ∉ f.tags)
    (resp : Resp) : d.recordResponse t o resp = d := by
  cases flight : x.flight with
  | none => simp [Device.recordResponse, TrackContext.text_eq_some.2 body, flight]
  | some f => simp [Device.recordResponse, TrackContext.text_eq_some.2 body, flight, stale f flight]

/-- What a track's entry into FAULTED leaves as it is: everything but its slot and the post queue (R53). -/
theorem faultTrack_same (d : Device) (t : Slot) (cause : TrackFault) :
    (d.faultTrack t cause).cuePool = d.cuePool ∧ (d.faultTrack t cause).clipPool = d.clipPool ∧
      (d.faultTrack t cause).windows = d.windows ∧ (d.faultTrack t cause).writeQueue = d.writeQueue ∧
      (d.faultTrack t cause).readList = d.readList ∧ (d.faultTrack t cause).outstanding = d.outstanding ∧
      (d.faultTrack t cause).engine = d.engine ∧ (d.faultTrack t cause).monitor = d.monitor :=
  ⟨rfl, rfl, rfl, rfl, rfl, rfl, rfl, rfl⟩

theorem track_faultTrack_text (body : (d.track t).body = .text x) (cause : TrackFault) :
    (d.faultTrack t cause).track t =
      { d.track t with state := .faulted, faultCause := some cause, body := .text x.stopped } := by
  refine (Device.track_setTrack_self d ..).trans ?_
  rw [body]
  rfl

theorem track_faultTrack_of_ne {u : Slot} (h : u ≠ t) (cause : TrackFault) :
    (d.faultTrack t cause).track u = d.track u :=
  Device.track_setTrack_of_ne d _ h.symm

end

/-- A response to a record burst takes the burst off the port and is answered for its slot (R17, R104). -/
theorem exec_recordWriteResponse {s : State} {tag : Nat} {o : Outstanding} {t : Slot}
    (h : Answering s.dev tag o (.record t)) (resp : Resp) :
    exec (.recordWriteResponse tag resp) s =
      .next { s with dev := ((Answered s.dev tag).recordResponse t o resp).settle } := by
  obtain ⟨reset, outstanding, purpose⟩ := h
  have outstanding : Device.outstandingOf { s.dev with ports := [] } tag = some o := outstanding
  show s.ran _ = _
  rw [State.ran_released reset]
  simp only [Device.recordWritten, outstanding, purpose]
  rfl

end Sys2Proof.Machine

section
open Sys2Proof Sys2Proof.Machine Sys2Proof.Safety

/-- Settles O28: a body answer counts, the trailer's answer ends the record, a stale answer is discarded, and an ERROR faults the
track. -/
theorem recordBurstAnswersAreTaken : Obligations.RecordBurstAnswersAreTaken := by
  constructor
  · rintro s tag o t x answering rfl parity body
    refine ⟨fun f flight mem early => ?body, fun f r rest flight mem last records => ?trailer, fun resp stale => ?discarded⟩
    case body =>
      rw [exec_recordWriteResponse answering,
        recordResponse_ok (d := Answered s.dev o.tag) parity body flight mem, recordAnswered_body early]
      rfl
    case trailer =>
      rw [exec_recordWriteResponse answering,
        recordResponse_ok (d := Answered s.dev o.tag) parity body flight mem, recordAnswered_trailer last, recordDone_cons records]
      rfl
    case discarded =>
      rw [exec_recordWriteResponse answering, recordResponse_discarded (d := Answered s.dev o.tag) body stale]
  · rintro s tag o t x f answering rfl parity body flight mem
    let told := (Answered s.dev o.tag).post (.memoryError t none o.addr o.count)
    have faults : (Answered s.dev o.tag).recordResponse t o .error = told.faultTrack t .recordError :=
      recordResponse_error parity body flight mem
    refine ⟨(told.faultTrack t .recordError).settle, x.stopped, ?answer, track_faultTrack_text (d := told) body .recordError, rfl,
      rfl, fun u other => track_faultTrack_of_ne (d := told) other .recordError, faultTrack_same told t .recordError⟩
    case answer => rw [exec_recordWriteResponse answering, faults]

end

end

section

/-! PROOFS. The placement of a captured clip on the schedule (spec 07 section 7.4): what its own shift and its cascade leave of the
schedule, and the pool after the clip has joined it. -/

namespace Sys2Proof.Machine

open Sys2Proof Sys2Proof.Safety

/-! ## The clips that a cascade reaches (R122 step 3) -/

/-- The clips that a cascade reaches, each of them moved to where the clip before it now ends. -/
def pushedFrom : Nat → List (Nat × ClipEntry) → List (Nat × ClipEntry)
  | _, [] => []
  | before, q :: rest =>
    if q.2.start < before then (q.1, q.2.movedTo before) :: pushedFrom (before + (q.2.stop - q.2.start)) rest else []

theorem cascade_eq_ok {before : Nat} {clips moved : List (Nat × ClipEntry)} (h : cascade before clips = .ok moved) :
    moved = pushedFrom before clips := by
  induction clips generalizing before moved with
  | nil => cases h; rfl
  | cons q rest ih =>
    rw [pushedFrom]
    split
    next reached =>
      by_cases waiting : q.2.state = .waiting
      · rw [cascade_cons_waiting reached waiting] at h
        cases later : cascade (before + (q.2.stop - q.2.start)) rest with
        | error b => rw [later] at h; cases h
        | ok others =>
          rw [later] at h
          cases h
          rw [ih later]
      · rw [cascade, if_pos reached, if_neg waiting] at h
        cases h
    next reached =>
      rw [cascade, if_neg reached] at h
      cases h
      rfl

/-- A clip that the cascade reaches is moved behind those before it. -/
theorem mem_pushedFrom {before : Nat} {earlier later : List (Nat × ClipEntry)} {q : Nat × ClipEntry}
    (hc : Chained (earlier ++ q :: later)) (h : q.2.start < before + lengths earlier) :
    (q.1, q.2.movedTo (before + lengths earlier)) ∈ pushedFrom before (earlier ++ q :: later) := by
  induction earlier generalizing before with
  | nil =>
    rw [List.nil_append, pushedFrom, if_pos (show q.2.start < before from h)]
    exact List.mem_cons_self
  | cons p earlier ih =>
    rw [List.cons_append, pushedFrom, if_pos (reached_head hc h)]
    rw [lengths_cons, ← Nat.add_assoc] at h ⊢
    exact List.mem_cons_of_mem _ (ih hc.tail h)

/-- A clip that the cascade moves is one that it reaches, behind those before it. -/
theorem of_mem_pushedFrom {before : Nat} {clips : List (Nat × ClipEntry)} {m : Nat × ClipEntry}
    (h : m ∈ pushedFrom before clips) : ∃ earlier c later, clips = earlier ++ (m.1, c) :: later ∧
      c.start < before + lengths earlier ∧ m.2 = c.movedTo (before + lengths earlier) := by
  induction clips generalizing before with
  | nil => cases h
  | cons q rest ih =>
    rw [pushedFrom] at h
    split at h
    next reached =>
      rcases List.mem_cons.1 h with rfl | h
      · exact ⟨[], q.2, rest, rfl, reached, rfl⟩
      · obtain ⟨earlier, c, later, rfl, moves, eq⟩ := ih h
        rw [Nat.add_assoc, ← lengths_cons] at moves eq
        exact ⟨q :: earlier, c, later, rfl, moves, eq⟩
    next => cases h

/-- What stands behind a clip that the cascade does not reach plays no part in it. -/
theorem pushedFrom_of_unreached {before : Nat} {earlier later : List (Nat × ClipEntry)} {q : Nat × ClipEntry}
    (h : before + lengths earlier ≤ q.2.start) : pushedFrom before (earlier ++ q :: later) = pushedFrom before earlier := by
  induction earlier generalizing before with
  | nil => exact if_neg (not_lt.2 h)
  | cons p earlier ih =>
    rw [lengths_cons, ← Nat.add_assoc] at h
    rw [List.cons_append, pushedFrom, pushedFrom, ih h]

/-- The clips moved keep their numbers and their order. -/
theorem pushedFrom_keys (before : Nat) (clips : List (Nat × ClipEntry)) :
    ((pushedFrom before clips).map Prod.fst).Sublist (clips.map Prod.fst) := by
  induction clips generalizing before with
  | nil => exact List.nil_sublist _
  | cons q rest ih =>
    rw [pushedFrom]
    split
    · exact (ih _).cons_cons q.1
    · exact List.nil_sublist _

/-- The clips moved are as many as those that the cascade reaches. -/
theorem length_filter_reached {before : Nat} {clips : List (Nat × ClipEntry)} (hc : Chained clips)
    {p : Nat × ClipEntry → Bool}
    (hp : ∀ earlier q later, clips = earlier ++ q :: later → (p q = true ↔ q.2.start < before + lengths earlier)) :
    (clips.filter p).length = (pushedFrom before clips).length := by
  induction clips generalizing before with
  | nil => rfl
  | cons q rest ih =>
    have head : p q = true ↔ q.2.start < before := hp [] q rest rfl
    rw [pushedFrom]
    split
    next reached =>
      have behind := ih (before := before + (q.2.stop - q.2.start)) hc.tail fun earlier c later split => by
        rw [Nat.add_assoc, ← lengths_cons]
        exact hp (q :: earlier) c later (congrArg (List.cons q) split)
      rw [List.filter_cons_of_pos (head.2 reached), List.length_cons, behind, List.length_cons]
    next reached =>
      have none : ∀ c ∈ q :: rest, ¬p c = true := fun c hmem => by
        rcases List.mem_cons.1 hmem with rfl | hmem
        · exact mt head.1 reached
        · obtain ⟨earlier, later, rfl⟩ := List.append_of_mem hmem
          exact fun yes => absurd ((hp (q :: earlier) c later rfl).1 yes) (not_lt.2 (unreached hc (not_lt.1 reached)))
      rw [List.filter_eq_nil_iff.2 none]

/-! ## The schedule after a cascade (R122) -/

/-- A schedule after a cascade: each clip where it stood, or where the clips before it now end. -/
def afterCascade : Nat → List (Nat × ClipEntry) → List (Nat × ClipEntry)
  | _, [] => []
  | before, q :: rest =>
    (q.1, if q.2.start < before then q.2.movedTo before else q.2) :: afterCascade (before + (q.2.stop - q.2.start)) rest

theorem mem_afterCascade (before : Nat) (earlier later : List (Nat × ClipEntry)) (q : Nat × ClipEntry) :
    (q.1, if q.2.start < before + lengths earlier then q.2.movedTo (before + lengths earlier) else q.2) ∈
      afterCascade before (earlier ++ q :: later) := by
  induction earlier generalizing before with
  | nil => exact List.mem_cons_self
  | cons p earlier ih =>
    rw [lengths_cons, ← Nat.add_assoc]
    exact List.mem_cons_of_mem _ (ih _)

/-- A clip that a cascade has passed starts at the later of its own start and the end before it, and lasts as long as it did. -/
theorem times_pushed {e : ClipEntry} (h : e.start < e.stop) (before : Nat) :
    (if e.start < before then e.movedTo before else e).start = max e.start before ∧
      (if e.start < before then e.movedTo before else e).stop = max e.stop (before + (e.stop - e.start)) := by
  split
  · refine ⟨(max_eq_right (?_ : e.start ≤ before)).symm,
      (max_eq_right (?_ : e.stop ≤ before + (e.stop - e.start))).symm⟩ <;> omega
  · exact ⟨(max_eq_left (by omega)).symm, (max_eq_left (by omega)).symm⟩

theorem le_start_afterCascade {before bound : Nat} {clips : List (Nat × ClipEntry)} (hc : Chained clips)
    (h : bound ≤ before ∨ ∀ q ∈ clips, bound ≤ q.2.start) : ∀ m ∈ afterCascade before clips, bound ≤ m.2.start := by
  induction clips generalizing before with
  | nil => exact nofun
  | cons q rest ih =>
    have start := (times_pushed (hc.1 q List.mem_cons_self) before).1
    refine List.forall_mem_cons.2 ⟨?head, ih hc.tail ?rest⟩
    case head =>
      rw [start]
      exact le_max_iff.2 (h.symm.imp_left fun all => all q List.mem_cons_self)
    case rest => exact h.imp (fun le => le.trans (Nat.le_add_right ..)) fun all c mem => all c (List.mem_cons_of_mem _ mem)

/-- After a cascade the clips still end before the next ones begin. -/
theorem chained_afterCascade {before : Nat} {clips : List (Nat × ClipEntry)} (hc : Chained clips) :
    Chained (afterCascade before clips) := by
  induction clips generalizing before with
  | nil => exact hc
  | cons q rest ih =>
    have lasts := hc.1 q List.mem_cons_self
    obtain ⟨start, stop⟩ := times_pushed lasts before
    obtain ⟨restLasts, restApart⟩ := ih (before := before + (q.2.stop - q.2.start)) hc.tail
    refine ⟨List.forall_mem_cons.2 ⟨?lasts, restLasts⟩, List.pairwise_cons.2 ⟨fun m hm => ?apart, restApart⟩⟩
    case lasts =>
      rw [start, stop]
      omega
    case apart =>
      have behind := le_start_afterCascade hc.tail (.inl le_rfl) m hm
      have behind' := le_start_afterCascade hc.tail (.inr fun c hmem => (List.pairwise_cons.1 hc.2).1 c hmem) m hm
      rw [stop]
      exact max_le behind' behind

/-! ## Where the new clip starts (R122 steps 1 and 2) -/

/-- There is a tick at which a clip starts after its own shift: the one it asked for, or the last end of the clips of no later
start. -/
theorem exists_start (clips : List (Nat × ClipEntry)) (wanted : Nat) :
    ∃ start, wanted ≤ start ∧ (∀ q ∈ clips, q.2.start ≤ wanted → q.2.stop ≤ start) ∧
      (start = wanted ∨ ∃ q ∈ clips, q.2.start ≤ wanted ∧ q.2.stop = start) := by
  induction clips with
  | nil => exact ⟨wanted, le_rfl, nofun, .inl rfl⟩
  | cons q rest ih =>
    obtain ⟨start, le, past, at_⟩ := ih
    have attained : start = wanted ∨ ∃ p ∈ q :: rest, p.2.start ≤ wanted ∧ p.2.stop = start :=
      at_.imp_right fun ⟨p, hp, h⟩ => ⟨p, List.mem_cons_of_mem _ hp, h⟩
    by_cases later : q.2.start ≤ wanted ∧ start < q.2.stop
    · obtain ⟨early, later⟩ := later
      refine ⟨q.2.stop, le.trans later.le, List.forall_mem_cons.2 ⟨fun _ => le_rfl, fun p hp h => (past p hp h).trans later.le⟩,
        .inr ⟨q, List.mem_cons_self, early, rfl⟩⟩
    · exact ⟨start, le, List.forall_mem_cons.2 ⟨fun early => not_lt.1 fun h => later ⟨early, h⟩, past⟩, attained⟩

theorem exists_placing {d : Device} (h : ScheduleSound d) (t : Slot) (x : ClipTrack) (r : ClipRecord) :
    ∃ start after, Placing d t x r start after := by
  obtain ⟨start, le, past, attained⟩ := exists_start (d.trackClips t) (wantedTick x r)
  exact ⟨start, _, h, le, past, attained, rfl⟩

/-! ## The placement -/

/-- The entry of a clip that starts at a tick, with its lead (R120, R122, R123). -/
def scheduledClip (t : Slot) (x : ClipTrack) (n : Nat) (r : ClipRecord) (start : Nat) : ClipEntry :=
  (if start = wantedTick x r then r.entry x.settings t n else (r.entry x.settings t n).movedTo start).withLead
    x.settings.leadTicks x.cursor

/-- The clips that a new clip pushes, with their leads set anew (R122, R123). -/
def pushedClips (x : ClipTrack) (r : ClipRecord) (start : Nat) (after : List (Nat × ClipEntry)) : List (Nat × ClipEntry) :=
  (pushedFrom (start + r.duration) after).map fun m => (m.1, m.2.withLead x.settings.leadTicks x.cursor)

section
variable {d : Device} {t : Slot} {x : ClipTrack} {r : ClipRecord} {start n number : Nat} {after : List (Nat × ClipEntry)}

/-- A placement whose cascade goes through is in range, or dropped. -/
theorem Placing.scheduleClip_eq (h : Placing d t x r start after)
    (ok : cascade (start + r.duration) after = .ok (pushedFrom (start + r.duration) after)) :
    (scheduleClip d t x n r number = .accepted (r.isAdjusted x.settings) number (scheduledClip t x n r start)
        (pushedClips x r start after)) ∨
      (start ≠ wantedTick x r ∧ 4151263199 < start + r.duration + 48 * x.settings.tail ∨
        ∃ m ∈ pushedFrom (start + r.duration) after, 4151263199 < m.2.stop + 48 * x.settings.tail) ∧
        ∃ drop, scheduleClip d t x n r number = .dropped (r.isAdjusted x.settings) drop := by
  have requested : (r.entry x.settings t n).start = wantedTick x r := requested_eq r x
  have tail : x.settings.tailTicks = 48 * x.settings.tail := Nat.mul_comm _ _
  have shift := h.ownShift (n := n)
  have stop := movedTo_self_stop (r.entry x.settings t n) (start := start) rfl
  by_cases past : start ≠ wantedTick x r ∧ 4151263199 < start + r.duration + 48 * x.settings.tail ∨
      ∃ m ∈ pushedFrom (start + r.duration) after, 4151263199 < m.2.stop + 48 * x.settings.tail
  · have behind := (congrArg (cascade (start + r.duration)) (h.behind (n := n))).trans ok
    refine .inr ⟨past, _, scheduleClip_outOfRange (placeClip_outOfRange shift rfl behind ?_)⟩
    rw [requested, tail]
    exact past
  · refine .inl ?_
    have inRange : ¬(((Machine.ownShift (d.schedule t) (r.entry x.settings t n)).shifted &&
          decide (4151263199 < start + r.duration + x.settings.tailTicks)) ||
        (pushedFrom (start + r.duration) after).any fun m => decide (4151263199 < m.2.stop + x.settings.tailTicks)) = true := by
      rw [Bool.or_eq_true, Bool.and_eq_true, decide_eq_true_iff, List.any_eq_true, tail]
      refine mt (Or.imp (fun ⟨shifted, limit⟩ => ⟨fun same => ?_, limit⟩)
        fun ⟨m, hm, limit⟩ => ⟨m, hm, of_decide_eq_true limit⟩) past
      rw [shift, requested, if_pos same] at shifted
      cases shifted
    have placed : placeClip (d.schedule t) (r.entry x.settings t n) x.settings.tailTicks =
        .placed (Machine.ownShift (d.schedule t) (r.entry x.settings t n)) (pushedFrom (start + r.duration) after) := by
      have ends : (Machine.ownShift (d.schedule t) (r.entry x.settings t n)).stop = start + r.duration := by rw [shift, stop]
      simp only [placeClip, h.behind, ends, ok]
      exact if_neg inRange
    simp only [scheduleClip, placed, shift, requested]
    rfl

/-- An accepted placement went through its cascade. -/
theorem Placing.of_accepted (h : Placing d t x r start after) {adjusted : Bool} {i : Nat} {e : ClipEntry}
    {moved : List (Nat × ClipEntry)} (ha : scheduleClip d t x n r number = .accepted adjusted i e moved) :
    i = number ∧ e = scheduledClip t x n r start ∧ moved = pushedClips x r start after := by
  cases hc : cascade (start + r.duration) after with
  | error b =>
    rw [scheduleClip_collision (placeClip_collision h.ownShift rfl (h.behind ▸ hc))] at ha
    cases ha
  | ok others =>
    obtain rfl := cascade_eq_ok hc
    rcases h.scheduleClip_eq (n := n) (number := number) hc with accepted | ⟨-, drop, dropped⟩
    · rw [accepted] at ha
      cases ha
      exact ⟨rfl, rfl, rfl⟩
    · rw [dropped] at ha
      cases ha

end

/-! ## The pool after clips are written (R120) -/

theorem writeClips_of_notMem {clips : List (Nat × ClipEntry)} {i : Nat} (h : ∀ q ∈ clips, q.1 ≠ i)
    (pool : Vector (Option ClipEntry) 64) : (writeClips pool clips)[i]? = pool[i]? := by
  induction clips generalizing pool with
  | nil => rfl
  | cons q clips ih =>
    obtain ⟨hq, rest⟩ := List.forall_mem_cons.1 h
    exact (ih rest _).trans (Vector.getElem?_setIfInBounds_ne hq)

theorem writeClips_of_mem {clips : List (Nat × ClipEntry)} (keys : (clips.map Prod.fst).Nodup) {q : Nat × ClipEntry}
    (hi : q.1 < 64) (h : q ∈ clips) (pool : Vector (Option ClipEntry) 64) :
    (writeClips pool clips)[q.1]? = some (some q.2) := by
  induction clips generalizing pool with
  | nil => cases h
  | cons p clips ih =>
    obtain ⟨fresh, rest⟩ := List.nodup_cons.1 keys
    rcases List.mem_cons.1 h with rfl | h
    · have notMem : ∀ p ∈ clips, p.1 ≠ q.1 := fun p hp e => fresh (List.mem_map.2 ⟨p, hp, e⟩)
      exact (writeClips_of_notMem notMem _).trans (Vector.getElem?_setIfInBounds_self_of_lt hi)
    · exact ih rest h _

theorem Device.clip_lt {d : Device} {i : Nat} {c : ClipEntry} (h : d.clip i = some c) : i < 64 := by
  by_contra big
  rw [Device.clip, Vector.getElem?_eq_none (Nat.le_of_not_lt big)] at h
  cases h

/-- A clip has joined a sound schedule: it starts at a tick after its own shift, took a free entry of the pool, and pushed the clips
that its cascade reaches (R121 to R123). -/
structure ClipJoins (d a : Device) (t : Slot) (x : ClipTrack) (n : Nat) (r : ClipRecord) (start : Nat)
    (after : List (Nat × ClipEntry)) (number : Nat) : Prop extends Placing d t x r start after where
  lasts : 0 < r.duration
  lt : number < 64
  free : d.clip number = none
  pool : a.clipPool =
    (writeClips d.clipPool (pushedClips x r start after)).setIfInBounds number (some (scheduledClip t x n r start))

theorem ClipEntry.withLead_times (e : ClipEntry) (full c : Nat) :
    (e.withLead full c).track = e.track ∧ (e.withLead full c).start = e.start ∧ (e.withLead full c).stop = e.stop ∧
      (e.withLead full c).intakeSlot = e.intakeSlot := by
  unfold ClipEntry.withLead
  split <;> exact ⟨rfl, rfl, rfl, rfl⟩

theorem scheduledClip_times (t : Slot) (x : ClipTrack) (n : Nat) (r : ClipRecord) (start : Nat) :
    (scheduledClip t x n r start).track = t ∧ (scheduledClip t x n r start).start = start ∧
      (scheduledClip t x n r start).stop = start + r.duration ∧ (scheduledClip t x n r start).intakeSlot = n := by
  have requested : (r.entry x.settings t n).start = wantedTick x r := requested_eq r x
  have ends : (r.entry x.settings t n).stop = wantedTick x r + r.duration := congrArg (· + r.duration) requested
  obtain ⟨track, start', stop, slot⟩ := ClipEntry.withLead_times
    (if start = wantedTick x r then r.entry x.settings t n else (r.entry x.settings t n).movedTo start) x.settings.leadTicks x.cursor
  unfold scheduledClip
  rw [track, start', stop, slot]
  split
  next same => exact ⟨rfl, requested.trans same.symm, by rw [ends, same], rfl⟩
  next =>
    refine ⟨rfl, rfl, ?_, rfl⟩
    rw [ClipEntry.movedTo, ends, requested, Nat.add_sub_cancel_left]

section
variable {d a : Device} {t : Slot} {x : ClipTrack} {r : ClipRecord} {start n number : Nat} {after : List (Nat × ClipEntry)}

theorem Placing.keys (h : Placing d t x r start after) : (after.map Prod.fst).Nodup := by
  rw [h.after_eq]
  exact List.pairwise_map.2 ((schedule_distinct d t).sublist List.filter_sublist)

theorem Placing.mem_after (h : Placing d t x r start after) {q : Nat × ClipEntry} :
    q ∈ after ↔ d.clip q.1 = some q.2 ∧ q.2.track = t ∧ wantedTick x r < q.2.start := by
  rw [h.after_eq, List.mem_filter, decide_eq_true_iff]
  exact (and_congr_left' Device.mem_schedule).trans and_assoc

theorem Placing.split_mem (h : Placing d t x r start after) {earlier later : List (Nat × ClipEntry)} {i : Nat} {c : ClipEntry}
    (split : after = earlier ++ (i, c) :: later) : d.clip i = some c ∧ c.track = t ∧ wantedTick x r < c.start :=
  h.mem_after.1 (split ▸ List.mem_append_right _ List.mem_cons_self)

theorem ClipJoins.clip_new (h : ClipJoins d a t x n r start after number) :
    a.clip number = some (scheduledClip t x n r start) := by
  rw [Device.clip, h.pool, Vector.getElem?_setIfInBounds_self_of_lt h.lt]
  rfl

/-- Entries that are neither the new one nor pushed stay as they were. -/
theorem ClipJoins.clip_kept (h : ClipJoins d a t x n r start after number) {i : Nat} (hn : i ≠ number)
    (hi : ∀ m ∈ pushedFrom (start + r.duration) after, m.1 ≠ i) : a.clip i = d.clip i := by
  have notMem : ∀ q ∈ pushedClips x r start after, q.1 ≠ i := fun q hq => by
    obtain ⟨m, hm, rfl⟩ := List.mem_map.1 hq
    exact hi m hm
  rw [Device.clip, h.pool, Vector.getElem?_setIfInBounds_ne hn.symm, writeClips_of_notMem notMem]
  rfl

theorem ClipJoins.clip_same (h : ClipJoins d a t x n r start after number) {i : Nat} (hn : i ≠ number)
    (hi : ∀ q ∈ after, q.1 ≠ i) : a.clip i = d.clip i := by
  refine h.clip_kept hn fun m hm => ?_
  obtain ⟨earlier, c, later, split, -⟩ := of_mem_pushedFrom hm
  exact hi (m.1, c) (split ▸ List.mem_append_right _ List.mem_cons_self)

theorem ClipJoins.ne_number (h : ClipJoins d a t x n r start after number) {i : Nat} {c : ClipEntry} (hc : d.clip i = some c) :
    i ≠ number := by
  rintro rfl
  rw [h.free] at hc
  cases hc

/-- A clip that the cascade reaches starts where the clips before it now end, with its lead set anew (R122, R123). -/
theorem ClipJoins.clip_pushed (h : ClipJoins d a t x n r start after number) {earlier later : List (Nat × ClipEntry)} {i : Nat}
    {c : ClipEntry} (split : after = earlier ++ (i, c) :: later) (reached : c.start < start + r.duration + lengths earlier) :
    a.clip i = some ((c.movedTo (start + r.duration + lengths earlier)).withLead x.settings.leadTicks x.cursor) := by
  obtain ⟨used, -, -⟩ := h.split_mem split
  have moved : (i, c.movedTo (start + r.duration + lengths earlier)) ∈ pushedFrom (start + r.duration) after := by
    rw [split]
    exact mem_pushedFrom (split ▸ h.chained) reached
  have mem := List.mem_map_of_mem (f := fun m : Nat × ClipEntry => (m.1, m.2.withLead x.settings.leadTicks x.cursor)) moved
  have keys : ((pushedClips x r start after).map Prod.fst).Nodup := by
    have same : (pushedClips x r start after).map Prod.fst = (pushedFrom (start + r.duration) after).map Prod.fst := by
      rw [pushedClips, List.map_map]
      rfl
    rw [same]
    exact h.keys.sublist (pushedFrom_keys _ _)
  rw [Device.clip, h.pool, Vector.getElem?_setIfInBounds_ne (h.ne_number used).symm]
  exact congrArg Option.join (writeClips_of_mem keys (Device.clip_lt used) mem d.clipPool)

/-- A clip that the cascade does not reach stays where it was. -/
theorem ClipJoins.clip_unreached (h : ClipJoins d a t x n r start after number) {earlier later : List (Nat × ClipEntry)} {i : Nat}
    {c : ClipEntry} (split : after = earlier ++ (i, c) :: later) (past : start + r.duration + lengths earlier ≤ c.start) :
    a.clip i = some c := by
  obtain ⟨used, -, -⟩ := h.split_mem split
  refine (h.clip_kept (h.ne_number used) fun m hm same => ?_).trans used
  rw [split, pushedFrom_of_unreached (q := (i, c)) past] at hm
  have earlierKey := (pushedFrom_keys _ _).subset (List.mem_map_of_mem (f := Prod.fst) hm)
  have keys := h.keys
  rw [split, List.map_append] at keys
  exact (List.nodup_append.1 keys).2.2 m.1 earlierKey i List.mem_cons_self same

/-! ## The schedule after the clip has joined it (R122) -/

/-- The schedule after a clip has joined it: the clips of no later start than it asked for, the clip, and those behind it. -/
def joinedSchedule (d : Device) (t : Slot) (x : ClipTrack) (n : Nat) (r : ClipRecord) (start : Nat)
    (after : List (Nat × ClipEntry)) (number : Nat) : List (Nat × ClipEntry) :=
  (d.schedule t).filter (fun q => decide (q.2.start ≤ wantedTick x r)) ++
    (number, scheduledClip t x n r start) :: afterCascade (start + r.duration) after

theorem ClipJoins.chained_joined (h : ClipJoins d a t x n r start after number) :
    Chained (joinedSchedule d t x n r start after number) := by
  obtain ⟨-, starts, stops, -⟩ := scheduledClip_times t x n r start
  obtain ⟨frontLasts, frontApart⟩ := (schedule_chained h.sound t).sublist
    (List.filter_sublist (p := fun q => decide (q.2.start ≤ wantedTick x r)))
  obtain ⟨lasts, apart⟩ := chained_afterCascade (before := start + r.duration) h.chained
  have behind := le_start_afterCascade h.chained (.inl (le_refl (start + r.duration)))
  have before : ∀ q ∈ (d.schedule t).filter (fun q => decide (q.2.start ≤ wantedTick x r)), q.2.stop ≤ start := fun q hq => by
    obtain ⟨hq, early⟩ := List.mem_filter.1 hq
    exact h.past q ((schedule_perm d t).mem_iff.1 hq) (of_decide_eq_true early)
  refine ⟨fun q hq => ?lasts, List.pairwise_append.2 ⟨frontApart, List.pairwise_cons.2 ⟨fun m hm => ?new, apart⟩,
    fun q hq m hm => ?front⟩⟩
  case lasts =>
    rcases List.mem_append.1 hq with hq | hq
    · exact frontLasts q hq
    · rcases List.mem_cons.1 hq with rfl | hq
      · rw [starts, stops]
        exact Nat.lt_add_of_pos_right h.lasts
      · exact lasts q hq
  case new => exact stops.trans_le (behind m hm)
  case front =>
    rcases List.mem_cons.1 hm with rfl | hm
    · exact (before q hq).trans_eq starts.symm
    · exact (before q hq).trans ((Nat.le_add_right ..).trans (behind m hm))

/-- A clip after the acceptance stands on the joined schedule, or is one of another track, as it was. -/
theorem ClipJoins.cases (h : ClipJoins d a t x n r start after number) {i : Nat} {c : ClipEntry} (hc : a.clip i = some c) :
    (c.track = t ∧ ∃ q ∈ joinedSchedule d t x n r start after number, q.1 = i ∧ q.2.start = c.start ∧ q.2.stop = c.stop) ∨
      c.track ≠ t ∧ d.clip i = some c := by
  obtain ⟨track, -⟩ := scheduledClip_times t x n r start
  by_cases hn : i = number
  · subst hn
    obtain rfl := Option.some.inj (h.clip_new.symm.trans hc)
    exact .inl ⟨track, _, List.mem_append_right _ List.mem_cons_self, rfl, rfl, rfl⟩
  · by_cases hi : ∃ b, (i, b) ∈ after
    · obtain ⟨b, hb⟩ := hi
      obtain ⟨earlier, later, split⟩ := List.append_of_mem hb
      have stands := mem_afterCascade (start + r.duration) earlier later (i, b)
      rw [← split] at stands
      have mem := List.mem_append_right ((d.schedule t).filter fun q => decide (q.2.start ≤ wantedTick x r))
        (List.mem_cons_of_mem (number, scheduledClip t x n r start) stands)
      obtain ⟨-, own, -⟩ := h.split_mem split
      refine .inl ?_
      rcases lt_or_ge b.start (start + r.duration + lengths earlier) with reached | past
      · obtain ⟨track', starts, stops, -⟩ := ClipEntry.withLead_times (b.movedTo (start + r.duration + lengths earlier))
          x.settings.leadTicks x.cursor
        obtain rfl := Option.some.inj ((h.clip_pushed split reached).symm.trans hc)
        rw [if_pos reached] at mem
        exact ⟨track'.trans own, _, mem, rfl, starts.symm, stops.symm⟩
      · obtain rfl := Option.some.inj ((h.clip_unreached split past).symm.trans hc)
        rw [if_neg (not_lt.2 past)] at mem
        exact ⟨own, _, mem, rfl, rfl, rfl⟩
    · have same : d.clip i = some c := by
        rw [← h.clip_same hn fun q hq e => hi ⟨q.2, e ▸ hq⟩]
        exact hc
      by_cases own : c.track = t
      · have early : c.start ≤ wantedTick x r := not_lt.1 fun late => hi ⟨c, h.mem_after.2 ⟨same, own, late⟩⟩
        refine .inl ⟨own, (i, c), List.mem_append_left _ (List.mem_filter.2 ⟨?_, decide_eq_true early⟩), rfl, rfl, rfl⟩
        exact Device.mem_schedule.2 ⟨same, own⟩
      · exact .inr ⟨own, same⟩

/-- Two clips that share no tick. -/
def ClipEntry.Apart (a b : ClipEntry) : Prop :=
  a.stop ≤ b.start ∨ b.stop ≤ a.start

/-- An acceptance keeps the schedules sound (R122). -/
theorem ClipJoins.scheduleSound (h : ClipJoins d a t x n r start after number) : ScheduleSound a := by
  obtain ⟨lasts, apart⟩ := h.chained_joined
  obtain ⟨lastsOld, apartOld⟩ := h.sound
  refine ⟨fun i c hc => ?lasts, fun i j b c ne hb hc same => ?apart⟩
  case lasts =>
    rcases h.cases hc with ⟨-, q, hq, -, starts, stops⟩ | ⟨-, old⟩
    · rw [← starts, ← stops]
      exact lasts q hq
    · exact lastsOld i c old
  case apart =>
    rcases h.cases hb with ⟨ownB, p, hp, rfl, startsB, stopsB⟩ | ⟨otherB, oldB⟩ <;>
      rcases h.cases hc with ⟨ownC, q, hq, rfl, startsC, stopsC⟩ | ⟨otherC, oldC⟩
    · rw [← startsB, ← stopsB, ← startsC, ← stopsC]
      have : Std.Symm fun p q : Nat × ClipEntry => p.2.Apart q.2 := ⟨fun _ _ => Or.symm⟩
      have eitherWay := apart.imp (S := fun p q => p.2.Apart q.2) Or.inl
      exact eitherWay.forall hp hq fun e => ne (congrArg Prod.fst e)
    · exact absurd (same.symm.trans ownB) otherC
    · exact absurd (same.trans ownC) otherB
    · exact apartOld i j b c ne oldB oldC same

end

/-! ## The decision (R116) -/

section
variable {d : Device} {t : Slot} {x : ClipTrack} {r : ClipRecord} {n i : Nat} {adjusted : Bool} {e : ClipEntry}
  {moved : List (Nat × ClipEntry)}

theorem allocateClip_spec {reserve : Nat} (h : d.allocateClip t reserve = some i) : i < 64 ∧ d.clip i = none := by
  unfold Device.allocateClip at h
  split at h
  · obtain ⟨-, free, -⟩ := lowestFree_spec h
    have free : d.clipPool[i]? = some none := by simpa using free
    obtain ⟨bound, -⟩ := Vector.getElem?_eq_some_iff.1 free
    exact ⟨bound, by rw [Device.clip, free]; rfl⟩
  · cases h

theorem duration_pos (h : r.invalid = none) : 0 < r.duration := by
  unfold ClipRecord.invalid at h
  split at h
  · cases h
  · split at h
    · cases h
    · omega

/-- A record that passes the checks before is placed, with the entry that step 3 allocates (R116). -/
theorem decideClip_allocated (h : r.invalid = none) (ht : r.badTimes x.settings = none) (hl : x.cursor ≤ r.requested x.settings)
    {number : Nat} (ha : d.allocateClip t x.settings.reserve = some number) (hgood : d.damagedClip t = none) :
    decideClip d t x n r = scheduleClip d t x n r number := by
  simp [decideClip, h, ht, ClipRecord.entry, not_lt.2 hl, ha, hgood]

/-- An accepted record was placed, with a free entry of the pool. -/
theorem scheduleClip_of_accepted (h : decideClip d t x n r = .accepted adjusted i e moved) :
    0 < r.duration ∧ ∃ number, number < 64 ∧ d.clip number = none ∧
      scheduleClip d t x n r number = .accepted adjusted i e moved := by
  cases valid : r.invalid with
  | some detail => rw [decideClip_invalid valid] at h; cases h
  | none =>
    cases times : r.badTimes x.settings with
    | some detail => rw [decideClip_badTimes valid times] at h; cases h
    | none =>
      by_cases late : r.requested x.settings < x.cursor
      · rw [decideClip_late valid times late] at h
        cases h
      · cases allocated : d.allocateClip t x.settings.reserve with
        | none => simp [decideClip, valid, times, ClipRecord.entry, late, allocated] at h
        | some number =>
          cases damaged : d.damagedClip t with
          | some j => simp [decideClip, valid, times, ClipRecord.entry, late, allocated, damaged] at h
          | none =>
            obtain ⟨lt, free⟩ := allocateClip_spec allocated
            rw [decideClip_allocated valid times (not_lt.1 late) allocated damaged] at h
            exact ⟨duration_pos valid, number, lt, free, h⟩

theorem joins_of_decideClip (hd : ScheduleSound d) (h : decideClip d t x n r = .accepted adjusted i e moved) :
    ∃ start after, ClipJoins d (d.acceptClip t x adjusted i e moved) t x n r start after i := by
  obtain ⟨lasts, number, lt, free, scheduled⟩ := scheduleClip_of_accepted h
  obtain ⟨start, after, placing⟩ := exists_placing hd t x r
  obtain ⟨rfl, rfl, rfl⟩ := placing.of_accepted scheduled
  exact ⟨start, after, placing, lasts, lt, free, rfl⟩

end

end Sys2Proof.Machine
end

section

/-! PROOFS. The states of clips while a burst is processed (spec 07 section 7.5): what each frame makes of each clip of the track, and
the counts of the clips that retire. -/

namespace Sys2Proof.Machine

open Sys2Proof Sys2Proof.Safety

/-! ## The state of a clip at a frame (R124) -/

/-- The state that a clip has after the frame at a position, from the state that it had before. -/
def ClipEntry.stateAt (c : ClipEntry) (q : Nat) : ClipState :=
  if c.state = .waiting ∧ q + c.lead < c.start then .waiting
  else if c.state ≠ .releasing ∧ q < c.stop then .active
  else .releasing

/-- What R133 to R135 say of a gain, by the duck mode of its clip. -/
def ClipEntry.ResolvesTo (c : ClipEntry) (s : ClipSettings) (g : Nat) : Prop :=
  (c.mode = .fixed → g = c.fixedGain) ∧ (c.mode = .autoFast → g = s.deepPreset ∨ g = s.shallowPreset) ∧
    (c.mode = .autoFull → s.gainFloor ≤ g ∧ g ≤ max s.gainFloor 32768)

/-- `b` is `c` with nothing but its clip state and its gain changed. -/
def ClipEntry.SameClip (c b : ClipEntry) : Prop :=
  b = { c with state := b.state, gain := b.gain }

/-- `b` is `c` after the frames up to position `q`: it is in its state at `q`, and its gain is resolved if it left WAITING on the
way. -/
structure ClipEntry.CarriedTo (s : ClipSettings) (q : Nat) (c b : ClipEntry) : Prop where
  same : c.SameClip b
  state : b.state = c.stateAt q
  kept : b.state = .waiting ∨ c.state ≠ .waiting → b.gain = c.gain
  resolved : c.state = .waiting → b.state ≠ .waiting → ∃ g, b.gain = some g ∧ c.ResolvesTo s g

theorem ClipEntry.SameClip.fields {c b : ClipEntry} (h : c.SameClip b) :
    b.track = c.track ∧ b.start = c.start ∧ b.stop = c.stop ∧ b.lead = c.lead ∧ b.mode = c.mode ∧
      b.fixedGain = c.fixedGain ∧ b.shifted = c.shifted ∧ b.leadClipped = c.leadClipped := by
  rw [h]
  exact ⟨rfl, rfl, rfl, rfl, rfl, rfl, rfl, rfl⟩

theorem ClipEntry.SameClip.rfl {c : ClipEntry} : c.SameClip c := Eq.refl c

theorem ClipEntry.SameClip.trans {c b a : ClipEntry} (h : c.SameClip b) (k : b.SameClip a) : c.SameClip a := by
  unfold SameClip at *
  rw [k, h]

theorem ClipEntry.stateAt_eq_waiting {c : ClipEntry} {q : Nat} :
    c.stateAt q = .waiting ↔ c.state = .waiting ∧ q + c.lead < c.start := by
  unfold stateAt
  split
  next waits => exact ⟨fun _ => waits, fun _ => Eq.refl _⟩
  next begun => split <;> exact ⟨nofun, fun waits => absurd waits begun⟩

/-- The state at a later frame follows from the state at an earlier one. -/
theorem ClipEntry.CarriedTo.stateAt {s : ClipSettings} {q q' : Nat} {c b : ClipEntry} (h : CarriedTo s q c b) (hq : q ≤ q') :
    b.stateAt q' = c.stateAt q' := by
  obtain ⟨-, start, stop, lead, -⟩ := h.same.fields
  have state := h.state
  unfold ClipEntry.stateAt at state ⊢
  rw [start, stop, lead]
  split at state
  next waits =>
    rw [state, waits.1]
  next begun =>
    have left : ¬(c.state = .waiting ∧ q' + c.lead < c.start) := fun waits => begun ⟨waits.1, by omega⟩
    split at state
    next plays => simp [state, left, plays.1]
    next ended =>
      have released : ¬(c.state ≠ .releasing ∧ q' < c.stop) := fun plays => ended ⟨plays.1, by omega⟩
      simp [state, left, released]

theorem ClipEntry.CarriedTo.trans {s : ClipSettings} {q q' : Nat} {c b a : ClipEntry} (h : CarriedTo s q c b)
    (k : CarriedTo s q' b a) (hq : q ≤ q') : CarriedTo s q' c a := by
  obtain ⟨-, -, -, -, mode, fixedGain, -⟩ := h.same.fields
  have left : c.state ≠ .waiting → b.state ≠ .waiting := fun hc hb => by
    rw [h.state, stateAt_eq_waiting] at hb
    exact hc hb.1
  refine ⟨h.same.trans k.same, k.state.trans (h.stateAt hq), fun ha => ?kept, fun hc ha => ?resolved⟩
  case kept =>
    rcases ha with waits | begun
    · have waited : b.state = .waiting := by
        rw [k.state, stateAt_eq_waiting] at waits
        exact waits.1
      exact (k.kept (.inl waits)).trans (h.kept (.inl waited))
    · exact (k.kept (.inr (left begun))).trans (h.kept (.inr begun))
  case resolved =>
    by_cases hb : b.state = .waiting
    · obtain ⟨g, gain, resolves⟩ := k.resolved hb ha
      refine ⟨g, gain, ?_⟩
      rwa [ResolvesTo, mode, fixedGain] at resolves
    · obtain ⟨g, gain, resolves⟩ := h.resolved hc hb
      exact ⟨g, (k.kept (.inr hb)).trans gain, resolves⟩

/-! ## What the lane's work makes of the clip pool -/

/-- The lane of track `t` has brought `w` to `v`: the clips of the track whose e + T is below `n` are gone, each other clip of the track
has become one to which `R` relates it, and every other entry is as it was. -/
structure LaneWork.Carries (t : Slot) (n : Nat) (R : ClipEntry → ClipEntry → Prop) (w v : LaneWork) : Prop where
  settings : v.x.settings = w.x.settings
  others : ∀ i, (∀ c, w.clip i = some c → c.track ≠ t) → v.clip i = w.clip i
  gone : ∀ i c, w.clip i = some c → c.track = t → c.stop + w.x.settings.tailTicks < n → v.clip i = none
  stays : ∀ i c, w.clip i = some c → c.track = t → n ≤ c.stop + w.x.settings.tailTicks → ∃ b, v.clip i = some b ∧ R c b

namespace LaneWork.Carries

variable {t : Slot} {n m : Nat} {R S Q : ClipEntry → ClipEntry → Prop} {u v w : LaneWork}

theorem trans (h : Carries t n R w v) (k : Carries t m S v u) (hm : n ≤ m) (hR : ∀ c b, R c b → c.SameClip b)
    (hQ : ∀ c b a, R c b → S b a → Q c a) : Carries t m Q w u := by
  refine ⟨k.settings.trans h.settings, fun i hi => ?others, fun i c hc own past => ?gone, fun i c hc own late => ?stays⟩
  case others => exact (k.others i fun c hc => hi c (h.others i hi ▸ hc)).trans (h.others i hi)
  case gone =>
    by_cases early : c.stop + w.x.settings.tailTicks < n
    · have none : v.clip i = none := h.gone i c hc own early
      exact (k.others i fun b hb => nomatch none.symm.trans hb).trans none
    · obtain ⟨b, hb, related⟩ := h.stays i c hc own (not_lt.1 early)
      obtain ⟨track, -, stop, -⟩ := (hR c b related).fields
      exact k.gone i b hb (track.trans own) (by rwa [stop, h.settings])
  case stays =>
    obtain ⟨b, hb, related⟩ := h.stays i c hc own (hm.trans late)
    obtain ⟨track, -, stop, -⟩ := (hR c b related).fields
    obtain ⟨a, ha, related'⟩ := k.stays i b hb (track.trans own) (by rwa [stop, h.settings])
    exact ⟨a, ha, hQ c b a related related'⟩

/-- Work that leaves the pool as it is, after other work. -/
theorem andThen (h : Carries t n R w v) (hs : u.x.settings = v.x.settings) (hp : u.pool = v.pool) : Carries t n R w u := by
  have clip : u.clip = v.clip := by
    funext i
    rw [LaneWork.clip, hp, LaneWork.clip]
  exact ⟨hs.trans h.settings, fun i hi => (congrFun clip i).trans (h.others i hi),
    fun i c hc own past => (congrFun clip i).trans (h.gone i c hc own past), fun i c hc own late => clip ▸ h.stays i c hc own late⟩

/-- Work that leaves the pool as it is, before other work. -/
theorem before (h : Carries t n R v u) (hs : v.x.settings = w.x.settings) (hp : v.pool = w.pool) : Carries t n R w u := by
  have clip : v.clip = w.clip := by
    funext i
    rw [LaneWork.clip, hp, LaneWork.clip]
  obtain ⟨settings, others, gone, stays⟩ := h
  rw [clip] at others gone stays
  rw [hs] at settings gone stays
  exact ⟨settings, others, gone, stays⟩

/-- No entry comes into the pool, and none changes in anything but its clip state and its gain. -/
theorem comes (h : Carries t n R w v) (hR : ∀ c b, R c b → c.SameClip b) {i : Nat} {b : ClipEntry} (hb : v.clip i = some b) :
    ∃ c, w.clip i = some c ∧ c.SameClip b := by
  by_cases own : ∃ c, w.clip i = some c ∧ c.track = t
  · obtain ⟨c, hc, own⟩ := own
    refine ⟨c, hc, ?_⟩
    by_cases early : c.stop + w.x.settings.tailTicks < n
    · cases (h.gone i c hc own early).symm.trans hb
    · obtain ⟨a, ha, related⟩ := h.stays i c hc own (not_lt.1 early)
      obtain rfl := Option.some.inj (ha.symm.trans hb)
      exact hR c a related
  · exact ⟨b, (h.others i fun c hc ht => own ⟨c, hc, ht⟩) ▸ hb, .rfl⟩

end LaneWork.Carries

/-! ## A step over each clip of the schedule -/

theorem scheduleIn_distinct (t : Slot) (pool : Vector (Option ClipEntry) 64) :
    (scheduleIn t pool).Pairwise fun a b => a.1 ≠ b.1 :=
  schedule_distinct { State.reset.dev with clipPool := pool } t

/-- A step over clips of different entries, that reads and writes the entry of its clip alone, does to each what the single step
does. -/
theorem LaneWork.foldl_each {s : ClipSettings} {P : ClipEntry → Option ClipEntry → Prop}
    {f : LaneWork → Nat × ClipEntry → LaneWork}
    (hf : ∀ v q, v.x.settings = s → v.clip q.1 = some q.2 → (f v q).x.settings = s ∧
      (∀ j, j ≠ q.1 → (f v q).clip j = v.clip j) ∧ P q.2 ((f v q).clip q.1))
    {l : List (Nat × ClipEntry)} (distinct : l.Pairwise fun a b => a.1 ≠ b.1) {w : LaneWork} (hs : w.x.settings = s)
    (hl : ∀ q ∈ l, w.clip q.1 = some q.2) :
    (l.foldl f w).x.settings = s ∧ (∀ i, (∀ q ∈ l, q.1 ≠ i) → (l.foldl f w).clip i = w.clip i) ∧
      ∀ q ∈ l, P q.2 ((l.foldl f w).clip q.1) := by
  induction l generalizing w with
  | nil => exact ⟨hs, fun _ _ => rfl, nofun⟩
  | cons q l ih =>
    obtain ⟨fresh, distinct⟩ := List.pairwise_cons.1 distinct
    obtain ⟨here, later⟩ := List.forall_mem_cons.1 hl
    obtain ⟨settings, others, own⟩ := hf w q hs here
    obtain ⟨settings', others', own'⟩ := ih distinct settings fun p hp => (others p.1 (fresh p hp).symm).trans (later p hp)
    refine ⟨settings', fun i hi => ?_, List.forall_mem_cons.2 ⟨?_, own'⟩⟩
    · obtain ⟨hq, hi⟩ := List.forall_mem_cons.1 hi
      exact (others' i hi).trans (others i hq.symm)
    · rw [List.foldl_cons, others' q.1 fun p hp => (fresh p hp).symm]
      exact own

/-- A step over the schedule of track `t`. -/
theorem LaneWork.foldl_schedule {t : Slot} {w : LaneWork} {P : ClipEntry → Option ClipEntry → Prop}
    {f : LaneWork → Nat × ClipEntry → LaneWork}
    (hf : ∀ v q, v.x.settings = w.x.settings → v.clip q.1 = some q.2 → (f v q).x.settings = w.x.settings ∧
      (∀ j, j ≠ q.1 → (f v q).clip j = v.clip j) ∧ P q.2 ((f v q).clip q.1)) :
    ((scheduleIn t w.pool).foldl f w).x.settings = w.x.settings ∧
      (∀ i, (∀ c, w.clip i = some c → c.track ≠ t) → ((scheduleIn t w.pool).foldl f w).clip i = w.clip i) ∧
      ∀ i c, w.clip i = some c → c.track = t → P c (((scheduleIn t w.pool).foldl f w).clip i) := by
  obtain ⟨settings, others, own⟩ := LaneWork.foldl_each hf (scheduleIn_distinct t w.pool) rfl fun q hq => (mem_scheduleIn.1 hq).1
  refine ⟨settings, fun i hi => others i fun q hq e => ?_, fun i c hc ht => own (i, c) (mem_scheduleIn.2 ⟨hc, ht⟩)⟩
  obtain ⟨hq, ht⟩ := mem_scheduleIn.1 hq
  exact hi q.2 (e ▸ hq) ht

/-! ## The state changes and the retirement of one clip (R124, R125) -/

section
variable {v : LaneWork} {i : Nat} {c : ClipEntry}

theorem LaneWork.clip_activate (hc : v.clip i = some c) (j : Nat) :
    (v.activate i c).clip j =
      if i = j then
        some { c with
          state := .active
          gain := some (resolvedGain v.x.settings v.x.meter (resolutionOf v.x.settings c)) }
      else v.clip j :=
  LaneWork.clip_set v.pool _ (LaneWork.clip_lt hc) _ j

theorem LaneWork.clip_release (hc : v.clip i = some c) (j : Nat) :
    (v.release i).clip j = if i = j then some { c with state := .releasing } else v.clip j := by
  have entry : (v.pool[i]?).join = some c := hc
  simp only [LaneWork.release, entry]
  exact LaneWork.clip_set v.pool _ (LaneWork.clip_lt hc) _ j

/-- A resolved gain is the one that the duck mode calls for (R133 to R135). -/
theorem resolvesTo_resolvedGain (s : ClipSettings) (m : Meter) (c : ClipEntry) :
    c.ResolvesTo s (resolvedGain s m (resolutionOf s c)) := by
  refine ⟨fun fixed => ?fixed, fun fast => ?fast, fun full => ?full⟩
  case fixed => simp only [resolutionOf, fixed, resolvedGain]
  case fast =>
    simp only [resolutionOf, fast, resolvedGain]
    cases fastDecision s m.level m.decision with
    | deep => exact .inl rfl
    | shallow => exact .inr rfl
  case full =>
    simp only [resolutionOf, full, resolvedGain, fullGain, clampGain, Config.unity]
    omega

variable {s : ClipSettings} {q : Nat}

/-- A clip whose ramp begins by a frame is resolved, and is RELEASING already if it ends by that frame too. -/
theorem ClipEntry.carriedTo_begun (waits : c.state = .waiting) (begins : c.start ≤ q + c.lead) {g : Nat} (hg : c.ResolvesTo s g)
    {st : ClipState} (hst : st = if q < c.stop then .active else .releasing) :
    c.CarriedTo s q { c with state := st, gain := some g } := by
  have begun : st ≠ .waiting := by
    rw [hst]
    split <;> exact nofun
  refine ⟨rfl, ?_, fun h => absurd waits (h.resolve_left begun), fun _ _ => ⟨g, rfl, hg⟩⟩
  simp [stateAt, waits, not_lt.2 begins, hst]

theorem ClipEntry.carriedTo_released (active : c.state = .active) (ends : c.stop ≤ q) :
    c.CarriedTo s q { c with state := .releasing } := by
  refine ⟨rfl, ?_, fun _ => rfl, fun waits => nomatch active.symm.trans waits⟩
  simp [stateAt, active, not_lt.2 ends]

/-- A clip of which neither the ramp begins nor the end comes by a frame keeps its state. -/
theorem ClipEntry.carriedTo_self (rests : ¬(c.state = .waiting ∧ c.start ≤ q + c.lead))
    (lasts : ¬(c.state = .active ∧ c.stop ≤ q)) :
    c.CarriedTo s q c := by
  refine ⟨.rfl, ?_, fun _ => rfl, fun waits begun => absurd waits begun⟩
  unfold stateAt
  cases hc : c.state with
  | waiting =>
    have : ¬c.start ≤ q + c.lead := fun h => rests ⟨hc, h⟩
    rw [if_pos ⟨rfl, by omega⟩]
  | active =>
    have : ¬c.stop ≤ q := fun h => lasts ⟨hc, h⟩
    rw [if_neg nofun, if_pos ⟨nofun, by omega⟩]
  | releasing => simp

/-- The state changes of one clip at a frame (R124). -/
theorem LaneWork.clip_changeClip (q : Nat) (v : LaneWork) (p : Nat × ClipEntry) (hp : v.clip p.1 = some p.2) :
    (v.changeClip q p).x.settings = v.x.settings ∧ (∀ j, j ≠ p.1 → (v.changeClip q p).clip j = v.clip j) ∧
      ∃ b, (v.changeClip q p).clip p.1 = some b ∧ p.2.CarriedTo v.x.settings q b := by
  obtain ⟨i, c⟩ := p
  have hc : v.clip i = some c := hp
  refine ⟨(LaneWork.changeClip_same q v (i, c)).1.settings, ?_⟩
  unfold LaneWork.changeClip
  dsimp only
  by_cases starts : c.state = .waiting ∧ c.start ≤ q + c.lead
  · have active := v.clip_activate hc
    have resolves := resolvesTo_resolvedGain v.x.settings v.x.meter c
    rw [if_pos starts]
    by_cases ends : c.stop ≤ q
    · rw [if_pos ⟨.inr starts, ends⟩]
      have released := LaneWork.clip_release ((active i).trans (if_pos rfl))
      refine ⟨fun j hj => ?_, _, (released i).trans (if_pos rfl), ?_⟩
      · rw [released, if_neg hj.symm, active, if_neg hj.symm]
      · exact ClipEntry.carriedTo_begun starts.1 starts.2 resolves (if_neg (not_lt.2 ends)).symm
    · rw [if_neg fun h => ends h.2]
      refine ⟨fun j hj => (active j).trans (if_neg hj.symm), _, (active i).trans (if_pos rfl), ?_⟩
      exact ClipEntry.carriedTo_begun starts.1 starts.2 resolves (if_pos (not_le.1 ends)).symm
  · rw [if_neg starts]
    simp only [or_iff_left starts]
    by_cases ends : c.state = .active ∧ c.stop ≤ q
    · have released := LaneWork.clip_release hc
      rw [if_pos ends]
      exact ⟨fun j hj => (released j).trans (if_neg hj.symm), _, (released i).trans (if_pos rfl),
        ClipEntry.carriedTo_released ends.1 ends.2⟩
    · rw [if_neg ends]
      exact ⟨fun _ _ => rfl, c, hc, ClipEntry.carriedTo_self starts ends⟩

/-- The retirement of one clip (R125). -/
theorem LaneWork.clip_retireClip (pos : Nat) (v : LaneWork) (p : Nat × ClipEntry) (hp : v.clip p.1 = some p.2) :
    (v.retireClip pos p).x.settings = v.x.settings ∧ (∀ j, j ≠ p.1 → (v.retireClip pos p).clip j = v.clip j) ∧
      (v.retireClip pos p).clip p.1 = if p.2.stop + v.x.settings.tailTicks ≤ pos then none else some p.2 := by
  refine ⟨(LaneWork.retireClip_same pos v p).1.settings, ?_⟩
  unfold LaneWork.retireClip
  split
  · have freed := LaneWork.clip_set v.pool { v.x with counters := v.x.counters.clipRetired p.2 } (LaneWork.clip_lt hp) none
    exact ⟨fun j hj => (freed j).trans (if_neg hj.symm), (freed p.1).trans (if_pos rfl)⟩
  · exact ⟨fun _ _ => rfl, hp⟩

end

theorem LaneWork.carries_changeClips (t : Slot) (q : Nat) (w : LaneWork) :
    LaneWork.Carries t 0 (ClipEntry.CarriedTo w.x.settings q) w (w.changeClips t q) := by
  obtain ⟨settings, others, own⟩ := LaneWork.foldl_schedule (t := t) (w := w) (f := LaneWork.changeClip q)
    (P := fun c o => ∃ b, o = some b ∧ c.CarriedTo w.x.settings q b) fun v p hs hp => by
      have each := v.clip_changeClip q p hp
      rwa [hs] at each
  exact ⟨settings, others, fun _ _ _ _ h => absurd h (Nat.not_lt_zero _), fun i c hc ht _ => own i c hc ht⟩

theorem LaneWork.carries_retireClips (t : Slot) (pos : Nat) (w : LaneWork) :
    LaneWork.Carries t (pos + 1) Eq w (w.retireClips t pos) := by
  obtain ⟨settings, others, own⟩ := LaneWork.foldl_schedule (t := t) (w := w) (f := LaneWork.retireClip pos)
    (P := fun c o => o = if c.stop + w.x.settings.tailTicks ≤ pos then none else some c) fun v p hs hp => by
      have each := v.clip_retireClip pos p hp
      rwa [hs] at each
  refine ⟨settings, others, fun i c hc ht past => ?_, fun i c hc ht late => ⟨c, ?_, rfl⟩⟩
  · exact (own i c hc ht).trans (if_pos (Nat.le_of_lt_succ past))
  · exact (own i c hc ht).trans (if_neg (Nat.not_le_of_lt late))

/-! ## The counts of retired clips (R125) -/

/-- A count of a DESCRIPTION track that rises for each retired clip with a flag, and in no other event of a burst. -/
structure CountsRetired (count : ClipCounters → Nat) (flag : ClipEntry → Bool) : Prop where
  retired : ∀ k e, count (k.clipRetired e) = countIf (flag e) (count k)
  resolved : ∀ k s m how, count (ClipCounters.resolved k s m how) = count k
  limited : ∀ k l r, count (ClipCounters.limited k l r) = count k
  gap : ∀ (k : ClipCounters) n, count { k with gapFrames := n } = count k
  partialFlag : ∀ k : ClipCounters, count { k with partialFlag := true } = count k
  parityFlag : ∀ k : ClipCounters, count { k with parityFlag := true } = count k

/-- The clips of track `t` in a pool for which a condition holds, counted. -/
def tally (t : Slot) (f : ClipEntry → Bool) (pool : Vector (Option ClipEntry) 64) : Nat :=
  (scheduleIn t pool).countP fun q => f q.2

theorem countP_poolEntries {α : Type} (f : α → Bool) (n : Nat) (l : List (Option α)) :
    (poolEntries n l).countP (fun q => f q.2) = l.countP fun o => o.any f := by
  induction l generalizing n with
  | nil => rfl
  | cons o l ih =>
    cases o with
    | none => simp [poolEntries, ih]
    | some a => simp [poolEntries, ih, List.countP_cons]

theorem tally_eq (t : Slot) (f : ClipEntry → Bool) (pool : Vector (Option ClipEntry) 64) :
    tally t f pool = pool.toList.countP fun o => o.any fun c => c.track == t && f c := by
  have perm : (scheduleIn t pool).Perm ((poolEntries 0 pool.toList).filter fun x => x.2.track == t) :=
    schedule_perm { State.reset.dev with clipPool := pool } t
  rw [tally, perm.countP_eq, List.countP_filter, ← countP_poolEntries _ 0]
  simp only [Bool.and_comm]

theorem countP_eq_add {α β : Type} {p p₁ : α → Bool} {p₂ : β → Bool} {l : List α} {m : List β}
    (h : List.Forall₂ (fun a b => (p a).toNat = (p₁ a).toNat + (p₂ b).toNat) l m) :
    l.countP p = l.countP p₁ + m.countP p₂ := by
  induction h with
  | nil => rfl
  | @cons a b l m hab _ ih =>
    have toNat : ∀ x : Bool, (if x = true then 1 else 0) = x.toNat := fun x => by cases x <;> rfl
    simp only [List.countP_cons, toNat, ih, hab]
    omega

/-- The clips counted before the lane's work are those counted among the ones gone, and those counted among the ones left. -/
theorem LaneWork.Carries.tally_eq_add {t : Slot} {n : Nat} {R : ClipEntry → ClipEntry → Prop} {w v : LaneWork}
    (h : LaneWork.Carries t n R w v) (hR : ∀ c b, R c b → c.SameClip b) {f f₁ f₂ : ClipEntry → Bool}
    (hgone : ∀ i c, w.clip i = some c → c.track = t → c.stop + w.x.settings.tailTicks < n → f c = f₁ c)
    (hstays : ∀ i c b, w.clip i = some c → c.track = t → n ≤ c.stop + w.x.settings.tailTicks → R c b →
      f₁ c = false ∧ f c = f₂ b) :
    tally t f w.pool = tally t f₁ w.pool + tally t f₂ v.pool := by
  rw [tally_eq, tally_eq, tally_eq]
  refine countP_eq_add (List.forall₂_iff_get.2 ⟨by simp, fun i hw hv => ?_⟩)
  have entry : ∀ u : LaneWork, ∀ h : i < u.pool.toList.length, u.pool.toList.get ⟨i, h⟩ = u.clip i := fun u h => by
    rw [List.get_eq_getElem, Vector.getElem_toList, LaneWork.clip, Vector.getElem?_eq_getElem (by simpa using h), Option.join_some]
  rw [entry w hw, entry v hv]
  by_cases own : ∃ c, w.clip i = some c ∧ c.track = t
  · obtain ⟨c, hc, own⟩ := own
    rw [hc]
    by_cases early : c.stop + w.x.settings.tailTicks < n
    · rw [h.gone i c hc own early]
      simp [own, hgone i c hc own early]
    · obtain ⟨b, hb, related⟩ := h.stays i c hc own (not_lt.1 early)
      obtain ⟨notYet, same⟩ := hstays i c b hc own (not_lt.1 early) related
      obtain ⟨track, -⟩ := (hR c b related).fields
      rw [hb]
      simp [own, track, notYet, same]
  · have other : ∀ c, w.clip i = some c → c.track ≠ t := fun c hc ht => own ⟨c, hc, ht⟩
    rw [h.others i other]
    cases hc : w.clip i with
    | none => rfl
    | some c => simp [beq_eq_false_iff_ne.2 (other c hc)]

end Sys2Proof.Machine
end

section

/-! PROOFS. A burst processed whole (spec 09 section 9.3): what it makes of the clips of its track, and of the counts of those that
retire (spec 07 section 7.5). -/

namespace Sys2Proof.Machine

open Sys2Proof Sys2Proof.Safety

/-! ## One count over state changes and retirements -/

/-- A count of retired clips with a flag, and the property of the clips before a frame that tells which of those retired behind it
the count will rise for. -/
structure CountsLater (flag later : ClipEntry → Bool) : Prop where
  same : ∀ c b, c.SameClip b → later b = later c
  carried : ∀ s q c b, ClipEntry.CarriedTo s q c b → c.start < c.stop → c.stop ≤ q + 1 → flag b = later c

/-- The clips of track `t` with a property that retire by a cursor position, counted. -/
def LaneWork.retiring (w : LaneWork) (t : Slot) (f : ClipEntry → Bool) (pos : Nat) : Nat :=
  tally t (fun c => f c && decide (c.stop + w.x.settings.tailTicks ≤ pos)) w.pool

section
variable {count : ClipCounters → Nat} {flag later : ClipEntry → Bool}

theorem min_satAdd {a b : Nat} : min 65535 (satAdd a 1 + b) = min 65535 (a + (b + 1)) := by
  simp only [satAdd, Config.countLimit]
  omega

theorem CountsRetired.retireAll (h : CountsRetired count flag) (pos : Nat) (l : List (Nat × ClipEntry)) (w : LaneWork)
    (hw : count w.x.counters ≤ 65535) :
    count (l.foldl (LaneWork.retireClip pos) w).x.counters =
      min 65535 (count w.x.counters +
        l.countP fun q => flag q.2 && decide (q.2.stop + w.x.settings.tailTicks ≤ pos)) := by
  induction l generalizing w with
  | nil => exact (min_eq_right hw).symm
  | cons q l ih =>
    obtain ⟨same, -⟩ := LaneWork.retireClip_same pos w q
    have one : count (w.retireClip pos q).x.counters =
        countIf (flag q.2 && decide (q.2.stop + w.x.settings.tailTicks ≤ pos)) (count w.x.counters) := by
      unfold LaneWork.retireClip
      split
      next past => rw [decide_eq_true past, Bool.and_true]; exact h.retired _ _
      next late => rw [decide_eq_false late, Bool.and_false]; rfl
    rw [List.foldl_cons, ih _ (one.trans_le (countIf_le hw)), one, same.settings, List.countP_cons]
    cases flag q.2 && decide (q.2.stop + w.x.settings.tailTicks ≤ pos) with
    | true => exact min_satAdd
    | false => rfl

theorem CountsRetired.advanceTo (h : CountsRetired count flag) (t : Slot) (pos : Nat) {w : LaneWork}
    (hw : count w.x.counters ≤ 65535) :
    count (w.advanceTo t pos).x.counters = min 65535 (count w.x.counters + w.retiring t flag pos) :=
  h.retireAll pos (scheduleIn t w.pool) _ hw

theorem CountsRetired.changeClips (h : CountsRetired count flag) (t : Slot) (q : Nat) (w : LaneWork) :
    count (w.changeClips t q).x.counters = count w.x.counters := by
  have released : ∀ (v : LaneWork) i, (v.release i).x = v.x := fun v i => by
    unfold LaneWork.release
    split <;> rfl
  have one : ∀ (v : LaneWork) p, count (v.changeClip q p).x.counters = count v.x.counters := fun v p => by
    unfold LaneWork.changeClip
    dsimp only
    split
    · rw [released]
      split
      · exact h.resolved ..
      · rfl
    · split
      · exact h.resolved ..
      · rfl
  unfold LaneWork.changeClips
  generalize scheduleIn t w.pool = l
  induction l generalizing w with
  | nil => rfl
  | cons p l ih => exact (ih _).trans (one w p)

theorem CountsRetired.takeSample (h : CountsRetired count flag) (x : ClipTrack) (o : Option (Nat × ClipEntry)) (p : Nat) :
    count (x.takeSample o p).2.2.counters = count x.counters := by
  unfold ClipTrack.takeSample
  split
  · rfl
  · split
    · rfl
    · dsimp only
      split
      · rfl
      · exact h.parityFlag _

theorem CountsRetired.mixFrame (h : CountsRetired count flag) (t : Slot) (l r : Int) (w : LaneWork) :
    count (w.mixFrame t l r).1.x.counters = count w.x.counters :=
  (h.limited ..).trans (h.takeSample ..)

end

/-! ## What the frames of a burst make of the clips of the track -/

theorem LaneWork.carries_beginFrame (t : Slot) (w : LaneWork) :
    LaneWork.Carries t 0 (ClipEntry.CarriedTo w.x.settings w.x.cursor) w (w.beginFrame t) :=
  (LaneWork.carries_changeClips t w.x.cursor { w with x := { w.x with meter := w.x.meter.advanced w.x.cursor } }).before rfl rfl

theorem LaneWork.carries_advanceTo (t : Slot) (pos : Nat) (w : LaneWork) :
    LaneWork.Carries t (pos + 1) Eq w (w.advanceTo t pos) :=
  (LaneWork.carries_retireClips t pos { w with x := { w.x with cursor := pos, meter := w.x.meter.advanced pos } }).before rfl rfl

/-- Each clip of track `t` lasts. -/
def LaneWork.Lasting (t : Slot) (w : LaneWork) : Prop :=
  ∀ i c, w.clip i = some c → c.track = t → c.start < c.stop

/-- One or more frames of track `t`'s lane have brought `w` to `v`: the clips are in their states at the last of them, those whose
e + T the cursor has reached are gone, and a count of the retired ones has risen. -/
structure LaneWork.Plays (t : Slot) (w v : LaneWork) : Prop where
  moves : w.x.cursor < v.x.cursor
  carries : LaneWork.Carries t (v.x.cursor + 1) (ClipEntry.CarriedTo w.x.settings (v.x.cursor - 1)) w v
  counted : ∀ count flag later, CountsRetired count flag → CountsLater flag later → w.Lasting t → count w.x.counters ≤ 65535 →
    count v.x.counters = min 65535 (count w.x.counters + w.retiring t later v.x.cursor)

section
variable {t : Slot} {u v w : LaneWork} {n : Nat} {R : ClipEntry → ClipEntry → Prop} {flag later : ClipEntry → Bool}

theorem LaneWork.Carries.lasting (h : LaneWork.Carries t n R w v) (hR : ∀ c b, R c b → c.SameClip b) (hw : w.Lasting t) :
    v.Lasting t := by
  intro i b hb own
  obtain ⟨c, hc, same⟩ := h.comes hR hb
  obtain ⟨track, start, stop, -⟩ := same.fields
  rw [start, stop]
  exact hw i c hc (track ▸ own)

/-- The clips retiring by a later position are those gone by now, and those of the clips left. -/
theorem LaneWork.Carries.retiring_eq_add {a b : Nat} (h : LaneWork.Carries t (a + 1) R w v)
    (hR : ∀ c b, R c b → c.SameClip b) (hl : CountsLater flag later) (hab : a ≤ b) :
    w.retiring t later b = w.retiring t later a + v.retiring t later b := by
  refine h.tally_eq_add hR (fun i c _ _ past => ?_) fun i c e _ _ late related => ⟨?_, ?_⟩
  · rw [decide_eq_true (Nat.le_of_lt_succ past), decide_eq_true ((Nat.le_of_lt_succ past).trans hab)]
  · rw [decide_eq_false (Nat.not_le.2 late), Bool.and_false]
  · obtain ⟨-, -, stop, -⟩ := (hR c e related).fields
    rw [hl.same c e (hR c e related), stop, h.settings]

theorem LaneWork.Plays.trans (h : LaneWork.Plays t w v) (k : LaneWork.Plays t v u) : LaneWork.Plays t w u := by
  have later := k.moves
  have carries : ∀ c b, ClipEntry.CarriedTo w.x.settings (v.x.cursor - 1) c b → c.SameClip b := fun _ _ => (·.same)
  refine ⟨h.moves.trans k.moves, h.carries.trans k.carries (by omega) carries fun c b a hc ha => ?_, ?_⟩
  · rw [h.carries.settings] at ha
    exact hc.trans ha (by omega)
  · intro count flag later' hcount hlater lasting hw
    have first := h.counted count flag later' hcount hlater lasting hw
    have second := k.counted count flag later' hcount hlater (h.carries.lasting carries lasting)
      (first.trans_le (min_le_left _ _))
    have split := h.carries.retiring_eq_add carries hlater later.le
    rw [second, first, split]
    omega

/-- A frame at the cursor: the state changes, work that leaves the pool, and the advance by one. -/
theorem LaneWork.plays_frame (hs : v.x.settings = w.x.settings) (hp : v.pool = (w.beginFrame t).pool)
    (hc : v.x.cursor = w.x.cursor)
    (hcount : ∀ count flag, CountsRetired count flag → count v.x.counters = count w.x.counters) :
    LaneWork.Plays t w (v.advanceTo t (v.x.cursor + 1)) := by
  have begins : LaneWork.Carries t 0 (ClipEntry.CarriedTo w.x.settings w.x.cursor) w v :=
    (w.carries_beginFrame t).andThen (hs.trans (w.beginFrame_same t).1.settings.symm) hp
  rw [hc]
  have cursor : (v.advanceTo t (w.x.cursor + 1)).x.cursor = w.x.cursor + 1 := (v.advanceTo_same t _).2
  refine ⟨by omega, ?carries, ?counted⟩
  case carries =>
    rw [cursor]
    exact begins.trans (v.carries_advanceTo t (w.x.cursor + 1)) (Nat.zero_le _) (fun _ _ => (·.same))
      fun _ _ _ hb ha => ha ▸ hb
  case counted =>
    intro count flag later retired hlater lasting hw
    have same := hcount count flag retired
    have all : w.retiring t later (w.x.cursor + 1) = tally t (fun _ => false) w.pool + v.retiring t flag (w.x.cursor + 1) := by
      refine begins.tally_eq_add (fun _ _ => (·.same)) (fun _ _ _ _ past => absurd past (Nat.not_lt_zero _)) ?_
      intro i c b hc' own _ carried
      obtain ⟨-, -, stop, -⟩ := carried.same.fields
      refine ⟨rfl, ?_⟩
      rw [stop, begins.settings]
      by_cases past : c.stop + w.x.settings.tailTicks ≤ w.x.cursor + 1
      · rw [hlater.carried _ _ c b carried (lasting i c hc' own) (by omega)]
      · rw [decide_eq_false past, Bool.and_false, Bool.and_false]
    have none : tally t (fun _ => false) w.pool = 0 := List.countP_eq_zero.2 fun _ _ => nofun
    rw [none, Nat.zero_add] at all
    rw [cursor, all, ← same]
    exact retired.advanceTo t (w.x.cursor + 1) (same.trans_le hw)

theorem CountsRetired.beginFrame {count : ClipCounters → Nat} (h : CountsRetired count flag) (t : Slot) (w : LaneWork) :
    count (w.beginFrame t).x.counters = count w.x.counters :=
  h.changeClips t w.x.cursor _

theorem LaneWork.plays_partialFrame (t : Slot) (w : LaneWork) : LaneWork.Plays t w (w.partialFrame t) := by
  obtain ⟨same, cursor⟩ := w.beginFrame_same t
  exact LaneWork.plays_frame same.settings rfl cursor fun _ _ h => h.beginFrame t w

theorem LaneWork.plays_fullFrame (t : Slot) (l r : Int) (w : LaneWork) : LaneWork.Plays t w (w.fullFrame t l r).1 := by
  obtain ⟨begun, cursor⟩ := w.beginFrame_same t
  obtain ⟨mixed, cursor'⟩ := ((w.beginFrame t).meterFrame l r).mixFrame_same t l r
  exact LaneWork.plays_frame (v := (((w.beginFrame t).meterFrame l r).mixFrame t l r).1)
    (mixed.settings.trans begun.settings) rfl (cursor'.trans cursor)
    fun _ _ h => (h.mixFrame t l r _).trans (h.beginFrame t w)

theorem LaneWork.plays_beat (t : Slot) (b : Beat) (w : LaneWork) : LaneWork.Plays t w (w.beat t b).1 := by
  cases hb : isFullBeat b with
  | true =>
    simp only [LaneWork.beat, hb, if_true]
    exact (w.plays_fullFrame t _ _).trans (LaneWork.plays_fullFrame ..)
  | false =>
    have both := (w.plays_partialFrame t).trans (LaneWork.plays_partialFrame t _)
    simp only [LaneWork.beat, hb, Bool.false_eq_true, if_false]
    generalize (w.partialFrame t).partialFrame t = v at both
    obtain ⟨moves, carries, counted⟩ := both
    exact ⟨moves, carries.andThen rfl rfl, fun count flag later h hl lasting hw =>
      (h.partialFlag _).trans (counted count flag later h hl lasting hw)⟩

theorem LaneWork.beats_cons (t : Slot) (b : Beat) (bs : List Beat) (w : LaneWork) :
    (LaneWork.beats t (b :: bs) w).1 = (LaneWork.beats t bs (w.beat t b).1).1 :=
  rfl

theorem LaneWork.plays_beats (t : Slot) (b : Beat) (bs : List Beat) (w : LaneWork) :
    LaneWork.Plays t w (LaneWork.beats t (b :: bs) w).1 := by
  induction bs generalizing b w with
  | nil =>
    rw [LaneWork.beats_cons, LaneWork.beats]
    exact w.plays_beat t b
  | cons b' bs ih =>
    rw [LaneWork.beats_cons]
    exact (w.plays_beat t b).trans (ih b' (w.beat t b).1)

end

/-! ## The jump of a gap burst (R146) -/

section
variable {t : Slot} {p : Nat} {w : LaneWork}

theorem LaneWork.jump_of_le (h : p ≤ w.x.cursor) : w.jump t p = w :=
  if_neg (Nat.not_lt.2 h)

/-- A jump retires the clips whose e + T it passes, and leaves the others as they are. -/
theorem LaneWork.carries_jump (h : w.x.cursor < p) : LaneWork.Carries t (p + 1) Eq w (w.jump t p) := by
  rw [LaneWork.jump, if_pos h]
  exact (LaneWork.carries_advanceTo t p _).before rfl rfl

theorem CountsRetired.jump {count : ClipCounters → Nat} {flag : ClipEntry → Bool} (hcount : CountsRetired count flag)
    (h : w.x.cursor < p) (hw : count w.x.counters ≤ 65535) :
    count (w.jump t p).x.counters = min 65535 (count w.x.counters + w.retiring t flag p) := by
  have gap := hcount.gap w.x.counters (satAdd w.x.counters.gapFrames (p - w.x.cursor))
  rw [LaneWork.jump, if_pos h]
  refine (hcount.advanceTo t p (gap.trans_le hw)).trans ?_
  exact congrArg (fun k => min 65535 (k + w.retiring t flag p)) gap

end

/-- No entry comes into the pool when a burst is processed, and none changes in anything but its clip state and its gain. -/
theorem LaneWork.comes_process (t : Slot) (p : Nat) (bs : List Beat) (w : LaneWork) {i : Nat} {b : ClipEntry}
    (hb : (LaneWork.process t p bs w).1.clip i = some b) : ∃ c, w.clip i = some c ∧ c.SameClip b := by
  have played : ∀ b, (LaneWork.beats t bs (w.jump t p)).1.clip i = some b → ∃ c, (w.jump t p).clip i = some c ∧ c.SameClip b := by
    intro b hb
    cases bs with
    | nil => exact ⟨b, hb, .rfl⟩
    | cons x bs => exact (LaneWork.plays_beats t x bs _).carries.comes (fun _ _ => (·.same)) hb
  obtain ⟨c, hc, same⟩ := played b hb
  rcases lt_or_ge w.x.cursor p with gap | inOrder
  · obtain ⟨e, he, same'⟩ := (LaneWork.carries_jump gap).comes (fun _ _ e => e ▸ .rfl) hc
    exact ⟨e, he, same'.trans same⟩
  · rw [LaneWork.jump_of_le inOrder] at hc
    exact ⟨c, hc, same⟩

end Sys2Proof.Machine
end

section

/-! PROOFS. The clip pool (R120): no operation but the acceptance of a captured clip puts an entry into it or moves one. Under every
other operation an entry stays as it is, changes its clip state (R124) or leaves the pool (R47, R125, R174). -/

namespace Sys2Proof.Machine

open Sys2Proof

/-- Each clip pool entry of `e` is that of `d`, in another clip state at most. -/
structure Device.KeepsClips (d e : Device) : Prop where
  each : ∀ i b, e.clip i = some b → ∃ c, d.clip i = some c ∧ c.SameClip b

namespace Device.KeepsClips

theorem same {d e : Device} (h : e.clipPool = d.clipPool) : d.KeepsClips e :=
  ⟨fun i c hc => ⟨c, (Device.clip_congr h i).symm.trans hc, .rfl⟩⟩

theorem trans {d e f : Device} (h : d.KeepsClips e) (k : e.KeepsClips f) : d.KeepsClips f := by
  refine ⟨fun i c hc => ?_⟩
  obtain ⟨b, hb, same⟩ := k.each i c hc
  obtain ⟨a, ha, same'⟩ := h.each i b hb
  exact ⟨a, ha, same'.trans same⟩

theorem before {d e f : Device} (h : e.KeepsClips f) (he : e.clipPool = d.clipPool) : d.KeepsClips f :=
  (same he).trans h

theorem andThen {d e f : Device} (h : d.KeepsClips e) (hf : f.clipPool = e.clipPool) : d.KeepsClips f :=
  h.trans (same hf)

theorem empties {d e : Device} (h : ∀ i, e.clip i = none) : d.KeepsClips e :=
  ⟨fun i _ hc => nomatch (h i).symm.trans hc⟩

theorem foldl {α : Type} {f : Device → α → Device} (hf : ∀ (d : Device) a, d.KeepsClips (f d a)) (l : List α) (d : Device) :
    d.KeepsClips (l.foldl f d) := by
  induction l generalizing d with
  | nil => exact .same rfl
  | cons a l ih => exact (hf d a).trans (ih (f d a))

end Device.KeepsClips

/-! ## Integrity faults and the freeing of a track (R47, R173 to R176) -/

theorem Device.keepsClips_tellMonitor (d : Device) (k : ParityCause) (n : Nat) : d.KeepsClips (d.tellMonitor k n) := by
  unfold Device.tellMonitor
  split
  · exact .empties (d.enterBypass_clip k n)
  · unfold Device.repeatFault Device.rewriteWindow
    repeat' split
    all_goals exact .same rfl

theorem Device.keepsClips_readingTrack {d : Device} {t : Slot} {k : TrackContext → Device}
    (hk : d.KeepsClips (k (d.track t))) : d.KeepsClips (d.readingTrack t k) := by
  unfold Device.readingTrack
  split
  · exact hk
  · exact d.keepsClips_tellMonitor _ _

theorem Device.keepsClips_freeTrack (d : Device) (t : Slot) : d.KeepsClips (d.freeTrack t) :=
  ⟨fun i c hc => ⟨c, ((d.freeTrack_clip t i c).1 hc).1, .rfl⟩⟩

theorem Device.keepsClips_completeDrain (d : Device) (t : Slot) : d.KeepsClips (d.completeDrain t) := by
  unfold Device.completeDrain
  split
  · exact d.keepsClips_freeTrack t
  · exact .before (keepsClips_freeTrack ..) rfl

/-! ## Segmentation (R96 to R110) -/

theorem Device.closeSegment_clipPool (d : Device) (t : Slot) (x : TextTrack) :
    (d.closeSegment t x).clipPool = d.clipPool := rfl

theorem Device.blockClose_clipPool (d : Device) (t : Slot) (x : TextTrack) : (d.blockClose t x).clipPool = d.clipPool := by
  unfold Device.blockClose
  split <;> rfl

theorem Device.keepsClips_makeCloses (n : Nat) (d : Device) (t : Slot) : d.KeepsClips (Device.makeCloses n d t) := by
  induction n generalizing d with
  | zero => exact .same rfl
  | succ n ih =>
    unfold Device.makeCloses
    split
    · exact .same rfl
    · split
      · split
        · exact .before (ih _) (d.closeSegment_clipPool t _)
        · exact .same (d.blockClose_clipPool t _)
      · exact .same rfl

theorem Device.KeepsClips.decideClose {c d before : Device} (hd : c.KeepsClips d) (hb : c.KeepsClips before) (t : Slot) :
    c.KeepsClips (d.decideClose t before) := by
  cases hx : (d.track t).text with
  | none => rwa [Device.decideClose, hx]
  | some x =>
    rcases Device.decideClose_cases hx before with ⟨i, -, -, e⟩ | e <;> rw [e]
    · exact hb.trans (before.keepsClips_tellMonitor .cue i)
    · exact hd.trans (Device.keepsClips_makeCloses _ d t)

theorem Device.KeepsClips.resumeTrack {c d before : Device} (hd : c.KeepsClips d) (hb : c.KeepsClips before) (t : Slot)
    (x : TextTrack) (k : ResumeCause) : c.KeepsClips (d.resumeTrack t x k before) := by
  refine .decideClose (hd.trans ?_) hb t
  exact .same rfl

theorem Device.KeepsClips.afterAdvance {c d before : Device} (hd : c.KeepsClips d) (hb : c.KeepsClips before) (t : Slot)
    (x : TextTrack) : c.KeepsClips (d.afterAdvance t x before) := by
  unfold Device.afterAdvance
  split
  case h_4 =>
    split
    · exact hd.resumeTrack hb t x .auto
    · exact hd
  case h_6 =>
    split
    · exact hd.decideClose hb t
    · split
      · exact hd.trans (d.keepsClips_completeDrain t)
      · exact hd
  all_goals exact hd

theorem Device.keepsClips_consumeSlot (d : Device) (t : Slot) (x : TextTrack) (i : Nat) :
    d.KeepsClips (d.consumeSlot t x i) := by
  unfold Device.consumeSlot
  dsimp only
  split
  · split
    · exact d.keepsClips_tellMonitor _ _
    · refine .afterAdvance ?_ (.same rfl) t _
      exact .same rfl
  · exact .same rfl

theorem Device.keepsClips_indexTrailerRead (d : Device) (t : Slot) (i : Nat) : d.KeepsClips (d.indexTrailerRead t i) := by
  unfold Device.indexTrailerRead
  split
  · exact .same rfl
  · refine keepsClips_readingTrack ?_
    split
    · unfold Device.trailerReadIn
      split
      case h_4 => exact keepsClips_consumeSlot ..
      all_goals exact .same rfl
    · exact .same rfl

theorem Device.keepsClips_recordResponse (d : Device) (t : Slot) (o : Outstanding) (resp : Resp) :
    d.KeepsClips (d.recordResponse t o resp) := by
  unfold Device.recordResponse
  split
  · exact .same rfl
  · split
    · exact .same rfl
    · split
      · split
        · exact keepsClips_readingTrack (.same rfl)
        · exact .before (keepsClips_readingTrack (.same rfl)) rfl
      · exact .same rfl

/-! ## The lanes (R141 to R161) -/

theorem Device.laneRefresh_clipPool (d : Device) (t : Slot) : (d.laneRefresh t).clipPool = d.clipPool := by
  rcases d.laneRefresh_cases t with e | ⟨x, -, -, e⟩
  · rw [e]
  · rw [e]
    rfl

theorem Device.keepsClips_laneReads (d : Device) (t : Slot) : d.KeepsClips (d.laneReads t) := by
  rcases d.laneReads_cases t with ⟨-, e⟩ | ⟨i, -, -, e⟩ | ⟨-, -, e⟩ <;> rw [e]
  · exact .same rfl
  · exact d.keepsClips_tellMonitor _ _
  · exact .same (d.laneRefresh_clipPool t)

theorem Device.countBurst_clipPool (d : Device) (t : Slot) (s : Supply) (ends : Bool) :
    (d.countBurst t s ends).clipPool = d.clipPool := by
  unfold Device.countBurst Device.recoverLane Device.underrunBurst Device.degradeLane
  dsimp only
  repeat' split
  all_goals rfl

theorem Device.keepsClips_endDrain (d : Device) (t : Slot) : d.KeepsClips (d.endDrain t) := by
  unfold Device.endDrain
  split
  · exact d.keepsClips_completeDrain t
  · exact .same rfl

/-- A processed burst carries clips through their states, and frees those it retires (R124, R125, R148). -/
theorem Device.keepsClips_forward (d : Device) (t : Slot) (x : ClipTrack) (p : Nat) (w : QueuedWrite) (s : Supply) :
    d.KeepsClips (d.forward t x p w s) := by
  refine .trans ?_ (.before (keepsClips_endDrain ..) ((Device.laneRefresh_clipPool ..).trans (Device.countBurst_clipPool ..)))
  exact ⟨fun i b hb => LaneWork.comes_process t p w.original ⟨x, d.clipPool⟩ hb⟩

theorem Device.keepsClips_tellThenAnswer (d : Device) (k : ParityCause) (n : Nat) (beats : List Beat) :
    d.KeepsClips ((d.tellMonitor k n).answerHead beats) :=
  (d.keepsClips_tellMonitor k n).andThen rfl

theorem Device.keepsClips_offerMapped (d : Device) (t : Slot) (x : ClipTrack) (p : Nat) (w : QueuedWrite) :
    d.KeepsClips (d.offerMapped t x p w) := by
  unfold Device.offerMapped
  split
  · exact keepsClips_tellThenAnswer ..
  · dsimp only
    repeat' split
    case isFalse.isFalse.isFalse => exact .same (Device.laneRefresh_clipPool ..)
    all_goals exact keepsClips_forward ..

theorem Device.keepsClips_offer (d : Device) (t : Slot) (w : QueuedWrite) : d.KeepsClips (d.offer t w) := by
  unfold Device.offer Device.offerLane
  split
  · split
    · exact .same rfl
    · dsimp only
      split
      · split
        · exact .same rfl
        · exact keepsClips_offerMapped ..
      · exact .same rfl
  · exact keepsClips_tellThenAnswer ..

theorem Device.keepsClips_offerHead (d : Device) : d.KeepsClips d.offerHead := by
  unfold Device.offerHead
  split
  · exact .same rfl
  · split
    · split
      · exact .same rfl
      · exact keepsClips_offer ..
    · exact .same rfl

theorem Device.keepsClips_endHold (d : Device) (t : Slot) (x : ClipTrack) (h : HeldMapping) (w : QueuedWrite) (s : Supply) :
    d.KeepsClips (d.endHold t x h w s) := by
  unfold Device.endHold
  split
  · exact keepsClips_tellThenAnswer ..
  · exact keepsClips_forward ..

theorem Device.keepsClips_completionTest (d : Device) (t : Slot) : d.KeepsClips (d.completionTest t) := by
  unfold Device.completionTest
  split
  · exact .same rfl
  · split
    · exact .same rfl
    · split
      · exact keepsClips_endHold ..
      · exact .same rfl

theorem Device.keepsClips_timerExpires (d : Device) : d.KeepsClips d.timerExpires := by
  unfold Device.timerExpires
  split
  · exact .same rfl
  · unfold Device.expireHold
    split
    · exact .same rfl
    · split
      case h_3 =>
        refine keepsClips_readingTrack ?_
        split
        · exact keepsClips_endHold ..
        · exact .same rfl
      all_goals exact .same rfl

theorem Device.keepsClips_stageResponse (d : Device) (t : Slot) (x : ClipTrack) (r : SampleRead) (o : Outstanding)
    (resp : Resp) (data : List Word) : d.KeepsClips (d.stageResponse t x r o resp data) := by
  refine keepsClips_readingTrack ?_
  split
  · exact d.keepsClips_tellMonitor _ _
  · exact .before (keepsClips_completionTest ..) (Device.laneRefresh_clipPool ..)

theorem Device.keepsClips_sampleResponse (d : Device) (l : LaneNo) (o : Outstanding) (resp : Resp) (data : List Word) :
    d.KeepsClips (d.sampleResponse l o resp data) := by
  unfold Device.sampleResponse
  split
  · exact .same rfl
  · split
    · exact .before (keepsClips_laneReads ..) rfl
    · split
      · exact keepsClips_stageResponse ..
      · exact .before (keepsClips_stageResponse ..) rfl

theorem Device.keepsClips_prefetched (d : Device) (tag : Nat) (resp : Resp) (data : List Word) :
    d.KeepsClips (d.prefetched tag resp data) := by
  unfold Device.prefetched
  split
  · exact .same rfl
  · split
    case h_4 =>
      split
      · exact .before (keepsClips_sampleResponse ..) rfl
      · exact .same rfl
    all_goals exact .same rfl

/-! ## Intake (R71, R115) -/

theorem Device.keepsClips_partialClipWrite (d : Device) (t : Slot) : d.KeepsClips (d.partialClipWrite t) := by
  unfold Device.partialClipWrite
  split
  · exact .same rfl
  · refine keepsClips_readingTrack ?_
    split <;> exact .same rfl

theorem Device.keepsClips_takeCue (d : Device) (t : Slot) (x : TextTrack) (n : Nat) (r : CueRecord) :
    d.KeepsClips (d.takeCue t x n r) := by
  unfold Device.takeCue
  split
  · exact .same rfl
  · exact d.keepsClips_tellMonitor _ _
  · rw [acceptCue_eq]
    split
    · refine .decideClose ?_ (.same rfl) t
      exact .same rfl
    · exact .same rfl

theorem Device.keepsClips_captureCue (d : Device) (t : Slot) (n : Nat) (r : CueRecord) :
    d.KeepsClips (d.captureCue t n r) := by
  unfold Device.captureCue
  split
  · exact .same rfl
  · refine keepsClips_readingTrack ?_
    split
    case h_3 | h_4 => exact keepsClips_takeCue ..
    all_goals exact .same rfl

theorem Device.keepsClips_partialCueWrite (d : Device) (t : Slot) : d.KeepsClips (d.partialCueWrite t) := by
  unfold Device.partialCueWrite
  split
  · exact .same rfl
  · refine keepsClips_readingTrack ?_
    split <;> exact .same rfl

/-! ## The through-path (spec 01) -/

theorem Device.keepsClips_matchBurst (d : Device) (a : Addr) : d.KeepsClips (d.matchBurst a).1 := by
  unfold Device.matchBurst
  split
  · exact .same rfl
  · exact .foldl (fun e (j : EntryNo) => e.keepsClips_tellMonitor .window j.val) _ d

theorem Device.controlWrite_clipPool (d : Device) (base addr : Addr) (beats : List Beat) :
    (d.controlWrite base addr beats).clipPool = d.clipPool := by
  unfold Device.controlWrite Device.captureDirective
  dsimp only
  repeat' split
  all_goals rfl

theorem Device.keepsClips_readArrives (d : Device) (id : Nat) (addr : Addr) (count : Nat) :
    d.KeepsClips (d.readArrives id addr count) := by
  unfold Device.readArrives
  split
  · exact (d.keepsClips_matchBurst addr).andThen rfl
  · exact .same rfl

theorem Device.keepsClips_throughWrite (d : Device) (tag : Nat) (resp : Resp) :
    d.KeepsClips (d.throughWrite tag resp) := by
  unfold Device.throughWrite
  repeat' split
  all_goals exact .same rfl

theorem Device.reportTrailerRead_clipPool (d : Device) (n : Nat) : (d.reportTrailerRead n).clipPool = d.clipPool := by
  unfold Device.reportTrailerRead
  repeat' split
  all_goals rfl

theorem Device.keepsClips_trailerRead (d : Device) (w : Window) (n : Nat) : d.KeepsClips (d.trailerRead w n) := by
  unfold Device.trailerRead
  split
  case h_2 => exact .same (d.reportTrailerRead_clipPool n)
  case h_4 =>
    split
    · exact .same rfl
    · exact keepsClips_indexTrailerRead ..
  all_goals exact .same rfl

theorem Device.keepsClips_watchEvents (d : Device) (found : Option WindowMatch) (a : Addr) (count : Nat) :
    d.KeepsClips (d.watchEvents found a count) := by
  unfold Device.watchEvents
  split
  · exact .same rfl
  · next m => exact .foldl (fun e n => e.keepsClips_trailerRead m.window n) _ d

theorem Device.keepsClips_throughRead (d : Device) (tag : Nat) (resp : Resp) (data : List Word) :
    d.KeepsClips (d.throughRead tag resp data) := by
  unfold Device.throughRead
  split
  · exact .same rfl
  · next o _ =>
    split
    case h_1 id found _ =>
      split
      · unfold Device.readAnswered
        split
        · exact .andThen (.before (keepsClips_watchEvents (d.answered o.tag) found o.addr o.count) rfl) rfl
        · exact .same rfl
      · exact .same rfl
    all_goals exact .same rfl

/-! ## The report writer (spec 10) -/

theorem Device.switchRing_clipPool (d : Device) (x : Directive) : (d.switchRing x).clipPool = d.clipPool := by
  unfold Device.switchRing
  split <;> rfl

theorem Device.reportEnded_clipPool (d : Device) : d.reportEnded.clipPool = d.clipPool := by
  unfold Device.reportEnded
  split
  · rfl
  · exact d.switchRing_clipPool _

theorem Device.reportResponse_clipPool (d : Device) (tag : Nat) (resp : Resp) :
    (d.reportResponse tag resp).clipPool = d.clipPool := by
  unfold Device.reportResponse
  split
  · rfl
  · split
    case h_2 => split <;> rfl
    case h_3 | h_5 | h_6 =>
      split
      · exact Device.reportEnded_clipPool _
      · rfl
    all_goals rfl

theorem Device.reportWritten_clipPool (d : Device) (tag : Nat) (resp : Resp) :
    (d.reportWritten tag resp).clipPool = d.clipPool := by
  unfold Device.reportWritten
  split
  · rfl
  · split
    case h_6 => exact (d.answered tag).reportResponse_clipPool tag resp
    all_goals rfl

theorem Device.beginReport_clipPool (d : Device) : d.beginReport.clipPool = d.clipPool := by
  unfold Device.beginReport
  split <;> rfl

/-! ## The other responses (R38, R104) -/

theorem Device.keepsClips_recordWritten (d : Device) (tag : Nat) (resp : Resp) :
    d.KeepsClips (d.recordWritten tag resp) := by
  unfold Device.recordWritten
  split
  · exact .same rfl
  · split
    case h_5 => exact .before (keepsClips_recordResponse ..) rfl
    all_goals exact .same rfl

theorem Device.validate_clipPool (d : Device) (t : Slot) (x : Directive) (bs : List Byte) :
    (d.validate t x bs).clipPool = d.clipPool := by
  unfold Device.validate Device.takeDescriptor
  repeat' split
  all_goals rfl

theorem Device.keepsClips_descriptorAnswer (d : Device) (t : Slot) (n : BitVec 16) (resp : Resp) (data : List Word) :
    d.KeepsClips (d.descriptorAnswer t n resp data) := by
  refine keepsClips_readingTrack ?_
  split
  case h_1 =>
    split
    · split
      · exact .same (d.validate_clipPool ..)
      · exact .same rfl
    · exact .same rfl
  all_goals exact .same rfl

theorem Device.keepsClips_descriptorArrives (d : Device) (tag : Nat) (resp : Resp) (data : List Word) :
    d.KeepsClips (d.descriptorArrives tag resp data) := by
  unfold Device.descriptorArrives
  split
  · exact .same rfl
  · split
    case h_3 =>
      split
      · exact .before (keepsClips_descriptorAnswer ..) rfl
      · exact .same rfl
    all_goals exact .same rfl

/-! ## The arbiter (R15) -/

theorem Device.keepsClips_issueSamples (d : Device) (who : Requester) (l : LaneNo) :
    d.KeepsClips (d.issueSamples who l) := by
  unfold Device.issueSamples
  split
  · exact .same rfl
  · exact .before (keepsClips_laneReads ..) rfl

theorem Device.keepsClips_grantTo (d : Device) (r : Requester) : d.KeepsClips (d.grantTo r) := by
  cases r with
  | urgentPrefetch =>
    show d.KeepsClips d.grantUrgent
    unfold Device.grantUrgent
    split
    · exact .same rfl
    · exact keepsClips_issueSamples ..
  | throughPath =>
    show d.KeepsClips d.grantThrough
    unfold Device.grantThrough
    split
    · exact .same rfl
    · exact .before (keepsClips_offerHead _) rfl
    · exact .same rfl
  | recordWriter =>
    show d.KeepsClips d.grantRecord
    unfold Device.grantRecord
    repeat' split
    all_goals exact .same rfl
  | descriptorReads =>
    show d.KeepsClips d.grantDescriptor
    unfold Device.grantDescriptor
    repeat' split
    all_goals exact .same rfl
  | ordinaryPrefetch =>
    show d.KeepsClips d.grantOrdinary
    unfold Device.grantOrdinary
    split
    · exact .same rfl
    · exact .before (keepsClips_issueSamples ..) rfl
  | reportWriter =>
    show d.KeepsClips d.grantReport
    unfold Device.grantReport
    split <;> exact .same rfl

theorem Device.keepsClips_grant (d : Device) : d.KeepsClips d.grant := by
  unfold Device.grant
  split
  · split
    · exact .same rfl
    · exact .before (keepsClips_grantTo ..) rfl
  · exact .same rfl

/-! ## Directives (spec 02, spec 03) -/

theorem Device.keepsClips_takeDirective {k : DirectiveKind} {run : Device → Directive → Device}
    (hr : ∀ (e : Device) x, e.KeepsClips (run e x)) (d : Device) : d.KeepsClips (d.takeDirective k run) := by
  rcases d.takeDirective_cases k run with ⟨q, rest, -, -, -, -, e⟩ | e | e <;> rw [e]
  · exact .before (hr _ _) rfl
  · exact .before (keepsClips_tellMonitor ..) rfl
  · exact .same rfl

/-- A track directive, by what it does to a slot. -/
theorem Device.keepsClips_trackDirective {run : Device → Directive → Slot → TrackContext → Device}
    (hr : ∀ (e : Device) x t c, e.KeepsClips (run e x t c)) (k : DirectiveKind) (d : Device) :
    d.KeepsClips (d.takeDirective k fun e x => e.dispatch x (run e x)) := by
  refine keepsClips_takeDirective (fun e x => ?_) d
  unfold Device.dispatch
  split
  · exact .same rfl
  · split
    · exact .same rfl
    · exact keepsClips_readingTrack (hr ..)

/-- FLUSH TRACK, RETUNE TRACK and RESUME TRACK, by what they do to a track that passes their checks. -/
theorem Device.keepsClips_onText {d : Device} {run : TextTrack → Device} {applies : Bool} (hr : ∀ y, d.KeepsClips (run y))
    (x : Directive) (c : TrackContext) : d.KeepsClips (d.onText x c fun y => d.inState x applies (run y)) := by
  unfold Device.onText Device.inState
  repeat' split
  case h_5.isTrue => exact hr _
  all_goals exact .same rfl

theorem Device.keepsClips_openTrack (d : Device) (x : Directive) (t : Slot) (c : TrackContext) :
    d.KeepsClips (d.openTrack x t c) := by
  unfold Device.openTrack
  repeat' split
  all_goals exact .same rfl

theorem Device.keepsClips_drainText (d : Device) (t : Slot) (y : TextTrack) : d.KeepsClips (d.drainText t y) := by
  unfold Device.drainText
  split
  · exact d.keepsClips_tellMonitor _ _
  · refine .decideClose ?_ (.same rfl) t
    exact .same rfl

theorem Device.keepsClips_closeTrack (d : Device) (x : Directive) (t : Slot) (c : TrackContext) :
    d.KeepsClips (d.closeTrack x t c) := by
  unfold Device.closeTrack
  split
  case h_3 | h_6 => exact keepsClips_drainText ..
  case h_4 | h_9 => exact .before (keepsClips_endDrain ..) rfl
  all_goals exact .same rfl

theorem Device.keepsClips_flushTrack (d : Device) (x : Directive) (t : Slot) (c : TrackContext) :
    d.KeepsClips (d.flushTrack x t c) := by
  refine keepsClips_onText (fun y => ?_) x c
  unfold Device.flushTo
  dsimp only
  repeat' split
  case isFalse.isTrue =>
    refine .decideClose ?_ (.same rfl) t
    exact .same rfl
  all_goals exact .same rfl

theorem Device.keepsClips_abortTrack (d : Device) (x : Directive) (t : Slot) (c : TrackContext) :
    d.KeepsClips (d.abortTrack x t c) := by
  unfold Device.abortTrack
  split
  · exact .same rfl
  · exact d.keepsClips_freeTrack t

theorem Device.keepsClips_retuneTrack (d : Device) (x : Directive) (t : Slot) (c : TrackContext) :
    d.KeepsClips (d.retuneTrack x t c) := by
  refine keepsClips_onText (fun y => ?_) x c
  split <;> exact .same rfl

theorem Device.keepsClips_resumeDirective (d : Device) (x : Directive) (t : Slot) (c : TrackContext) :
    d.KeepsClips (d.resumeDirective x t c) := by
  refine keepsClips_onText (fun y => ?_) x c
  split
  · exact .resumeTrack (.same rfl) (.same rfl) t y .resume
  · exact .same rfl

theorem Device.keepsClips_setReportRing (d : Device) (x : Directive) : d.KeepsClips (d.setReportRing x) := by
  unfold Device.setReportRing
  split
  · split
    · exact .same (d.switchRing_clipPool x)
    · exact .same rfl
  · exact .same rfl

theorem Device.keepsClips_clearBypass (d : Device) (x : Directive) : d.KeepsClips (d.clearBypass x) := by
  unfold Device.clearBypass
  split <;> exact .same rfl

end Sys2Proof.Machine

end

section

/-! PROOFS. The clips on a schedule never overlap after any step (R122): the acceptance of a clip keeps them apart, and every other
operation leaves the times of the clip pool alone. -/

namespace Sys2Proof.Safety

open Sys2Proof Sys2Proof.Machine

theorem ScheduleSound.keeps {d e : Device} (h : ScheduleSound d) (k : d.KeepsClips e) : ScheduleSound e := by
  obtain ⟨lasts, apart⟩ := h
  refine ⟨fun i b hb => ?lasts, fun i j a b ne ha hb same => ?apart⟩
  case lasts =>
    obtain ⟨c, hc, clip⟩ := k.each i b hb
    obtain ⟨-, start, stop, -⟩ := clip.fields
    rw [start, stop]
    exact lasts i c hc
  case apart =>
    obtain ⟨c, hc, clip⟩ := k.each i a ha
    obtain ⟨c', hc', clip'⟩ := k.each j b hb
    obtain ⟨track, start, stop, -⟩ := clip.fields
    obtain ⟨track', start', stop', -⟩ := clip'.fields
    rw [start, stop, start', stop']
    exact apart i j c c' ne hc hc' (by rw [← track, ← track', same])

/-! ## Captures (R115, R122) -/

theorem ScheduleSound.takeClip {d : Device} (h : ScheduleSound d) (t : Slot) (x : ClipTrack) (n : Nat) (r : ClipRecord) :
    ScheduleSound (d.takeClip t x n r) := by
  unfold Device.takeClip
  split
  · exact h.keeps (.same rfl)
  · exact h.keeps (Device.keepsClips_tellMonitor ..)
  · next a i e moved decided =>
    obtain ⟨start, after, joins⟩ := joins_of_decideClip h decided
    exact joins.scheduleSound.keeps (.before (Device.keepsClips_completionTest ..) (Device.laneRefresh_clipPool ..))

theorem ScheduleSound.readingTrack {d : Device} (h : ScheduleSound d) {t : Slot} {k : TrackContext → Device}
    (hk : ScheduleSound (k (d.track t))) : ScheduleSound (d.readingTrack t k) := by
  unfold Device.readingTrack
  split
  · exact hk
  · exact h.keeps (Device.keepsClips_tellMonitor ..)

theorem ScheduleSound.captureClip {d : Device} (h : ScheduleSound d) (t : Slot) (n : Nat) (r : ClipRecord) :
    ScheduleSound (d.captureClip t n r) := by
  unfold Device.captureClip
  split
  · exact h
  · refine h.readingTrack ?_
    split
    case h_3 | h_5 => exact h.takeClip ..
    case h_6 => exact h.keeps (.same rfl)
    all_goals exact h

/-! ## The through-path (spec 01) -/

theorem ScheduleSound.intakeWrite {d : Device} (h : ScheduleSound d) (t : Slot) (k : WindowKind) (base addr : Addr)
    (beats : List Beat) : ScheduleSound (d.intakeWrite t k base addr beats) := by
  unfold Device.intakeWrite
  dsimp only
  split
  case h_3 =>
    split
    · exact h.keeps (Device.keepsClips_captureCue ..)
    · exact h.keeps (Device.keepsClips_partialCueWrite ..)
  case h_5 =>
    split
    · exact h.captureClip ..
    · exact h.keeps (Device.keepsClips_partialClipWrite ..)
  all_goals exact h

theorem ScheduleSound.ringWrite {d : Device} (h : ScheduleSound d) (id : Nat) (addr : Addr) (beats : List Beat)
    (m : WindowMatch) : ScheduleSound (d.ringWrite id addr beats m) := by
  have joined : ScheduleSound (d.joinQueue id addr beats (some m)) := h
  unfold Device.ringWrite
  split
  · exact joined
  · split
    · exact h
    · exact joined.intakeWrite ..

theorem ScheduleSound.placeWrite {d : Device} (h : ScheduleSound d) (id : Nat) (addr : Addr) (beats : List Beat)
    (found : Option WindowMatch) : ScheduleSound (d.placeWrite id addr beats found) := by
  unfold Device.placeWrite
  split
  · exact h
  · unfold Device.matchedWrite
    split
    case h_1 => exact h.keeps (.same (Device.controlWrite_clipPool ..))
    case h_3 | h_5 => exact h.ringWrite ..
    all_goals exact h

theorem ScheduleSound.writeArrives {d : Device} (h : ScheduleSound d) (id : Nat) (addr : Addr) (beats : List Beat) :
    ScheduleSound (d.writeArrives id addr beats) := by
  unfold Device.writeArrives
  split
  · have matched := h.keeps (d.keepsClips_matchBurst addr)
    exact (matched.placeWrite ..).keeps (Device.keepsClips_offerHead _)
  · exact h

/-! ## Events and commands -/

theorem scheduleSound_empty {d : Device} (h : ∀ i, d.clip i = none) : ScheduleSound d :=
  ⟨fun i _ hc => (nomatch (h i).symm.trans hc), fun i _ _ _ _ hc => (nomatch (h i).symm.trans hc)⟩

theorem clip_held (tag i : Nat) : (Device.held tag).clip i = none := by
  simp only [Device.clip, Device.held, Vector.getElem?_replicate]
  split <;> rfl

theorem ScheduleSound.ran {s s' : State} {work : Device → Device} (h : ScheduleSound s.dev)
    (hw : ∀ d, ScheduleSound d → ScheduleSound (work d)) (e : s.ran work = .next s') : ScheduleSound s'.dev := by
  cases e
  show ScheduleSound (s.dev.event work)
  unfold Device.event
  split
  · exact hw { s.dev with ports := [] } h
  · exact h

/-- A command whose work puts no clip into the pool. -/
theorem ScheduleSound.ran_keeps {s s' : State} {work : Device → Device} (h : ScheduleSound s.dev)
    (hw : ∀ d : Device, d.KeepsClips (work d)) (e : s.ran work = .next s') : ScheduleSound s'.dev :=
  h.ran (fun d hd => hd.keeps (hw d)) e

/-- An upstream burst that arrives: refused where it is none, turned away in reset, and else an event that keeps the schedules. -/
theorem ScheduleSound.arrival {s s' : State} {ok : Bool} {id : Nat} {work : Device → Device} (h : ScheduleSound s.dev)
    (hw : ∀ d, ScheduleSound d → ScheduleSound (work d))
    (e : (if ok then (if s.dev.resetN then s.ran work else .next { s with dev := s.dev.turnedAway id })
      else .refused .notABurst) = Host.Outcome.next s') : ScheduleSound s'.dev := by
  split at e
  · split at e
    · exact h.ran hw e
    · cases e; exact h
  · cases e

theorem ScheduleSound.exec {c : Instr} {s s' : State} (h : ScheduleSound s.dev) (e : exec c s = .next s') :
    ScheduleSound s'.dev := by
  cases c with
  | resetAssert => cases e; exact scheduleSound_empty (clip_held _)
  | resetRelease cwb =>
    change execResetRelease cwb s = .next s' at e
    unfold execResetRelease at e
    split at e <;> cases e
    · exact h
    · exact scheduleSound_empty (clip_held s.dev.nextTag)
  | upstreamWrite id addr beats => exact h.arrival (fun _ hd => hd.writeArrives id addr beats) e
  | upstreamRead id addr count =>
    exact h.arrival (fun d hd => hd.keeps (d.keepsClips_readArrives id addr count)) e
  | memoryGrant => exact h.ran_keeps Device.keepsClips_grant e
  | holdTimerExpiry => exact h.ran_keeps Device.keepsClips_timerExpires e
  | prefetchResponse tag resp data => exact h.ran_keeps (fun d => d.keepsClips_prefetched tag resp data) e
  | throughReadResponse tag resp data => exact h.ran_keeps (fun d => d.keepsClips_throughRead tag resp data) e
  | throughWriteResponse tag resp => exact h.ran_keeps (fun d => d.keepsClips_throughWrite tag resp) e
  | descriptorResponse tag resp data => exact h.ran_keeps (fun d => d.keepsClips_descriptorArrives tag resp data) e
  | recordWriteResponse tag resp => exact h.ran_keeps (fun d => d.keepsClips_recordWritten tag resp) e
  | reportBegin => exact h.ran_keeps (fun d => .same d.beginReport_clipPool) e
  | reportWriteResponse tag resp => exact h.ran_keeps (fun d => .same (d.reportWritten_clipPool tag resp)) e
  | openTrack => exact h.ran_keeps (Device.keepsClips_trackDirective Device.keepsClips_openTrack _) e
  | closeTrack => exact h.ran_keeps (Device.keepsClips_trackDirective Device.keepsClips_closeTrack _) e
  | flushTrack => exact h.ran_keeps (Device.keepsClips_trackDirective Device.keepsClips_flushTrack _) e
  | abortTrack => exact h.ran_keeps (Device.keepsClips_trackDirective Device.keepsClips_abortTrack _) e
  | retuneTrack => exact h.ran_keeps (Device.keepsClips_trackDirective Device.keepsClips_retuneTrack _) e
  | resumeTrack => exact h.ran_keeps (Device.keepsClips_trackDirective Device.keepsClips_resumeDirective _) e
  | setReportRing => exact h.ran_keeps (Device.keepsClips_takeDirective Device.keepsClips_setReportRing) e
  | clearBypass => exact h.ran_keeps (Device.keepsClips_takeDirective Device.keepsClips_clearBypass) e
  | unknownDirective =>
    exact h.ran_keeps (Device.keepsClips_takeDirective fun d x => (.same rfl : d.KeepsClips (d.refuse x .unknown))) e

end Sys2Proof.Safety

section
open Sys2Proof Sys2Proof.Machine Sys2Proof.Safety

/-- Settles O57: the own shift and the cascade of an accepted clip leave each clip of the track behind the one before it, and every
other command keeps the times of the clips. -/
theorem stepKeepsTheSchedule : Obligations.StepKeepsTheSchedule := by
  rintro ⟨pending, d⟩ s' h e
  cases pending with
  | nil => cases e; exact h
  | cons c rest => exact ScheduleSound.exec (c := c) (s := ⟨rest, d⟩) h e

end

end

section

/-! PROOFS. A captured clip record that passes every check (spec 07 sections 7.2 to 7.4): its pool entry, the clips that it pushes, and
the counts. -/

namespace Sys2Proof.Machine

open Sys2Proof Sys2Proof.Safety

/-! ## The allocation (R121) -/

/-- The lowest-numbered free entry is allocated where the track has room under its reserve or the pool has room to spare (R121). -/
theorem allocateClip_eq {d : Device} {t : Slot} {reserve number : Nat}
    (room : (d.trackClips t).length < reserve ∨ d.clipsOwed t < 64 - d.clipsInUse) (lt : number < 64)
    (free : d.clip number = none) (lower : ∀ j < number, (d.clip j).isSome = true) :
    d.allocateClip t reserve = some number := by
  have entry : ∀ i, i < 64 → d.clipPool.toList[i]? = some (d.clip i) := fun i hi => by
    rw [Device.clip, Vector.getElem?_toList, Vector.getElem?_eq_getElem hi]
    rfl
  have lowest : lowestFree 0 d.clipPool.toList = some (0 + number) := by
    refine lowestFree_eq ((entry number lt).trans (congrArg some free)) (fun j hj => ?_) 0
    obtain ⟨c, hc⟩ := Option.isSome_iff_exists.1 (lower j hj)
    exact ⟨c, (entry j (hj.trans lt)).trans (congrArg some hc)⟩
  rw [Nat.zero_add] at lowest
  exact (if_pos room).trans lowest

/-! ## The new entry and the pushed ones (R120, R122, R123) -/

/-- The effective lead of a clip (R123). -/
theorem ClipEntry.withLead_eq (e : ClipEntry) (full c : Nat) :
    e.withLead full c =
      { e with
        lead := if c + full ≤ e.start then full else e.start - c
        leadClipped := decide (e.start < c + full) } := by
  unfold ClipEntry.withLead
  split
  next fits => rw [decide_eq_false (Nat.not_lt.2 fits)]
  next clipped => rw [decide_eq_true (Nat.not_le.1 clipped)]

section
variable {t : Slot} {x : ClipTrack} {r : ClipRecord} {n start : Nat}

/-- The entry of a scheduled clip, field by field. -/
theorem scheduledClip_eq {mode : DuckMode} (hm : duckModeOf r.mode = some mode) (le : wantedTick x r ≤ start) :
    scheduledClip t x n r start =
      { track := t
        intakeSlot := n
        hostId := r.hostId
        start := start
        stop := start + r.duration
        lead := if x.cursor + x.settings.leadTicks ≤ start then x.settings.leadTicks else start - x.cursor
        address := r.address
        level := if r.level = 0xFFFF then x.settings.defaultLevel else r.level
        mode := mode
        fixedGain := r.fixedGain
        gain := none
        shifted := decide (wantedTick x r < start)
        leadClipped := decide (start < x.cursor + x.settings.leadTicks)
        state := .waiting
        parityOk := true } := by
  obtain ⟨-, starts, stops, -⟩ := scheduledClip_times t x n r start
  have level : r.dg x.settings = if r.level = 0xFFFF then x.settings.defaultLevel else r.level := rfl
  unfold scheduledClip at starts stops ⊢
  rw [ClipEntry.withLead_eq] at starts stops ⊢
  dsimp only at starts stops ⊢
  rw [starts, stops]
  split
  next same => simp [ClipRecord.entry, hm, level, same]
  next shift => simp [ClipEntry.movedTo, ClipRecord.entry, hm, level, lt_of_le_of_ne le (Ne.symm shift)]

end

/-! ## The placement that goes through -/

section
variable {d a : Device} {t : Slot} {x : ClipTrack} {r : ClipRecord} {n start number : Nat} {after : List (Nat × ClipEntry)}

/-- A placement that pushes WAITING clips alone, and keeps clear of the timeline limit, is accepted (R122). -/
theorem Placing.accepted (h : Placing d t x r start after)
    (limit : start = wantedTick x r ∨ start + r.duration + 48 * x.settings.tail ≤ 4151263199)
    (pushes : ∀ earlier i c later, after = earlier ++ (i, c) :: later → c.start < start + r.duration + lengths earlier →
      c.state = .waiting ∧ start + r.duration + lengths earlier + (c.stop - c.start) + 48 * x.settings.tail ≤ 4151263199) :
    scheduleClip d t x n r number = .accepted (r.isAdjusted x.settings) number (scheduledClip t x n r start)
      (pushedClips x r start after) := by
  obtain ⟨moved, ok, -⟩ := cascade_moves h.chained fun earlier i c later split reached => (pushes earlier i c later split reached).1
  obtain rfl := cascade_eq_ok ok
  rcases h.scheduleClip_eq (n := n) (number := number) ok with accepted | ⟨⟨shifted, past⟩ | ⟨m, hm, past⟩, -⟩
  · exact accepted
  · exact absurd past (Nat.not_lt.2 (limit.resolve_left shifted))
  · obtain ⟨earlier, c, later, split, reached, moves⟩ := of_mem_pushedFrom hm
    rw [moves] at past
    exact absurd past (Nat.not_lt.2 (pushes earlier m.1 c later split reached).2)

/-- The clips behind the new one that the acceptance has changed are those that the cascade reached. -/
theorem ClipJoins.length_changed (h : ClipJoins d a t x n r start after number) :
    (after.filter fun q => a.clip q.1 ≠ some q.2).length = (pushedClips x r start after).length := by
  rw [pushedClips, List.length_map]
  refine length_filter_reached h.chained fun earlier q later split => ?_
  rw [decide_eq_true_iff]
  constructor
  · exact fun changed => not_le.1 fun past => changed (h.clip_unreached split past)
  · intro reached same
    rw [h.clip_pushed split reached, ClipEntry.withLead_eq, Option.some.injEq] at same
    exact absurd (congrArg ClipEntry.start same) reached.ne'

theorem ClipJoins.slotHeld (h : ClipJoins d a t x n r start after number) : a.slotHeld t n = true := by
  obtain ⟨track, -, -, slot⟩ := scheduledClip_times t x n r start
  rw [Device.slotHeld, Bool.or_eq_true]
  exact .inr (List.any_eq_true.2 ⟨_, Device.mem_trackClips.2 ⟨h.clip_new, track⟩, beq_iff_eq.2 slot⟩)

end

end Sys2Proof.Machine

section
open Sys2Proof Sys2Proof.Machine Sys2Proof.Safety

/-- Settles O48: the record passes every step, so the placement goes through, and the pool is read back after the acceptance. -/
theorem acceptedClipIsScheduled : Obligations.AcceptedClipIsScheduled := by
  rintro s id addr beats m t x n r _ start _ _ number mode after reset writing sound kind slot whole hn unheld parity body state
    good rfl valid times hmode rfl late rfl rfl room lt free lower le past attained hafter pushes
  set d := Joined s.dev id addr beats m
  set r := parseClip (beatsBytes beats)
  have requested := requested_eq r x
  rw [requested] at late le past attained hafter
  have placing : Placing d t x r start after :=
    ⟨sound, le, past, attained.imp_right fun h => h.1, hafter⟩
  have accepted := placing.accepted (n := n) (number := number) (attained.imp_right fun h => h.2)
    fun earlier i c later split => pushes earlier i c later _ split rfl
  have decided : decideClip d t x n r = _ :=
    (decideClip_allocated valid times (requested ▸ late) (allocateClip_eq (d := d) room lt free lower)
      (damagedClip_eq_none good)).trans accepted
  set a := d.acceptClip t x (r.isAdjusted x.settings) number (scheduledClip t x n r start) (pushedClips x r start after)
  have joins : ClipJoins d a t x n r start after number := ⟨placing, duration_pos valid, lt, free, rfl⟩
  have leadTicks : x.settings.leadTicks = 48 * x.settings.lead := Nat.mul_comm _ _
  refine ⟨a, _, ?exec, rfl, joins.slotHeld, ?entry, ?behind, fun i => joins.clip_same, ?counts⟩
  case exec =>
    have taken : d.captureClip t n r = (a.laneRefresh t).completionTest t := by
      rw [captureClip_taken (d := d) parity body state, Device.takeClip, decided]
    rw [exec_captureClip ⟨reset, writing, slot, whole, hn, unheld, parity⟩ kind, taken]
  case entry =>
    rw [joins.clip_new, scheduledClip_eq hmode le, leadTicks, requested]
  case behind =>
    rintro earlier i c later _ split rfl
    refine ⟨joins.clip_unreached split, fun reached => ?_⟩
    rw [joins.clip_pushed split reached, ClipEntry.withLead_eq, leadTicks]
    rfl
  case counts =>
    rw [joins.length_changed]
    rfl

end

end

section

/-! PROOFS. The resolution of a gain (spec 08 sections 8.3 and 8.5), and a burst processed whole (spec 07 section 7.5). -/

namespace Sys2Proof.Machine

open Sys2Proof Sys2Proof.Safety

/-! ## The resolution of a gain (R132 to R135, R142) -/

section
variable {w : LaneWork} {i : Nat} {e : ClipEntry}

theorem countIf_decide (p : Prop) [Decidable p] (n : Nat) : countIf (decide p) n = if p then min 65535 (n + 1) else n := by
  simp only [countIf, satAdd, Config.countLimit, decide_eq_true_eq]

theorem activate_fixed {g : Nat} (h : resolutionOf w.x.settings e = .fixed g) :
    w.activate i e =
      { x := { w.x with
          counters := { w.x.counters with resolvedFixed := min 65535 (w.x.counters.resolvedFixed + 1) } }
        pool := w.pool.setIfInBounds i (some { e with state := .active, gain := some g }) } := by
  rw [LaneWork.activate, h]
  rfl

theorem unmetered_eq (m : Meter) (n : Nat) :
    countIf m.history.isEmpty n = if m.history = [] then min 65535 (n + 1) else n := by
  rw [← countIf_decide]
  congr 1
  exact Bool.eq_iff_iff.2 (List.isEmpty_iff.trans decide_eq_true_iff.symm)

theorem activate_fast (h : resolutionOf w.x.settings e = .fast) {last : FastDecision}
    (hl : last = fastDecision w.x.settings w.x.meter.level w.x.meter.decision) :
    w.activate i e =
      { x := { w.x with
          meter := { w.x.meter with decision := last }
          counters := { w.x.counters with
            resolvedDeep :=
              if last = .deep then min 65535 (w.x.counters.resolvedDeep + 1) else w.x.counters.resolvedDeep
            resolvedShallow :=
              if last = .deep then w.x.counters.resolvedShallow else min 65535 (w.x.counters.resolvedShallow + 1)
            unmetered :=
              if w.x.meter.history = [] then min 65535 (w.x.counters.unmetered + 1) else w.x.counters.unmetered } }
        pool := w.pool.setIfInBounds i (some { e with
          state := .active
          gain := some (if last = .deep then w.x.settings.deepPreset else w.x.settings.shallowPreset) }) } := by
  rw [LaneWork.activate, h, ← unmetered_eq, hl]
  cases decision : fastDecision w.x.settings w.x.meter.level w.x.meter.decision <;>
    simp [Meter.afterResolution, ClipCounters.resolved, resolvedGain, decision, ClipSettings.preset, countIf, satAdd,
      Config.countLimit]

theorem activate_full (h : resolutionOf w.x.settings e = .full) {g : Nat} (hg : g = fullGain w.x.settings w.x.meter.level) :
    w.activate i e =
      { x := { w.x with
          counters := { w.x.counters with
            resolvedFull := min 65535 (w.x.counters.resolvedFull + 1)
            floorClamps :=
              if g = w.x.settings.gainFloor then min 65535 (w.x.counters.floorClamps + 1) else w.x.counters.floorClamps
            unmetered :=
              if w.x.meter.history = [] then min 65535 (w.x.counters.unmetered + 1) else w.x.counters.unmetered } }
        pool := w.pool.setIfInBounds i (some { e with state := .active, gain := some g }) } := by
  rw [LaneWork.activate, h, ← unmetered_eq, hg, ← countIf_decide]
  rfl

/-- The gain of AUTO FULL is the target over the level, clamped, trimmed and clamped again (R135). -/
theorem fullGain_cast (c : ClipSettings) (level : Nat) :
    (fullGain c level : Int) =
      max (c.gainFloor : Int) (min 32768 (max (c.gainFloor : Int)
        (min 32768 (if level = 0 then 32768 else (c.fullTarget * 32768 / level : Nat))) + c.trim * 256)) := by
  have raw : (fullRaw c level : Int) = if level = 0 then 32768 else ((c.fullTarget * 32768 / level : Nat) : Int) :=
    apply_ite Nat.cast ..
  rw [fullGain, clampGain, fullTrimmed, clampGain, raw]
  exact Int.toNat_of_nonneg ((Int.natCast_nonneg _).trans (le_max_left _ _))

theorem resolutionOf_fixed {c : ClipSettings} {g : Nat}
    (h : e.mode = .fixed ∧ g = e.fixedGain ∨ e.mode = .trackDefault ∧ c.defaultMode = .fixed ∧ g = c.defaultGain) :
    resolutionOf c e = .fixed g := by
  rcases h with ⟨mode, rfl⟩ | ⟨mode, default, rfl⟩
  · simp [resolutionOf, mode]
  · simp [resolutionOf, mode, default]

theorem resolutionOf_fast {c : ClipSettings}
    (h : e.mode = .autoFast ∨ e.mode = .trackDefault ∧ c.defaultMode = .autoFast) : resolutionOf c e = .fast := by
  rcases h with mode | ⟨mode, default⟩
  · simp [resolutionOf, mode]
  · simp [resolutionOf, mode, default]

theorem resolutionOf_full {c : ClipSettings}
    (h : e.mode = .autoFull ∨ e.mode = .trackDefault ∧ c.defaultMode = .autoFull) : resolutionOf c e = .full := by
  rcases h with mode | ⟨mode, default⟩
  · simp [resolutionOf, mode]
  · simp [resolutionOf, mode, default]

end

/-! ## The counts that rise with the retired clips (R125) -/

theorem countsRetired_retired : CountsRetired (·.retired) fun _ => true :=
  ⟨fun _ _ => rfl, fun _ _ _ how => by cases how <;> rfl, fun _ _ _ => rfl, fun _ _ => rfl, fun _ => rfl, fun _ => rfl⟩

theorem countsRetired_skipped : CountsRetired (·.skipped) fun c => c.state == .waiting :=
  ⟨fun _ _ => rfl, fun _ _ _ how => by cases how <;> rfl, fun _ _ _ => rfl, fun _ _ => rfl, fun _ => rfl, fun _ => rfl⟩

theorem countsRetired_shifted : CountsRetired (·.shifted) fun c => c.shifted :=
  ⟨fun _ _ => rfl, fun _ _ _ how => by cases how <;> rfl, fun _ _ _ => rfl, fun _ _ => rfl, fun _ => rfl, fun _ => rfl⟩

theorem countsRetired_leadClipped : CountsRetired (·.leadClipped) fun c => c.leadClipped :=
  ⟨fun _ _ => rfl, fun _ _ _ how => by cases how <;> rfl, fun _ _ _ => rfl, fun _ _ => rfl, fun _ => rfl, fun _ => rfl⟩

theorem ClipEntry.SameClip.flags {c b : ClipEntry} (h : c.SameClip b) :
    b.shifted = c.shifted ∧ b.leadClipped = c.leadClipped := by
  obtain ⟨-, -, -, -, -, -, flags⟩ := h.fields
  exact flags

/-- A flag that clip states play no part in. -/
theorem countsLater_of_same {flag : ClipEntry → Bool} (h : ∀ c b, c.SameClip b → flag b = flag c) : CountsLater flag flag :=
  ⟨h, fun _ _ c b carried _ _ => h c b carried.same⟩

/-- A clip that lasts has left WAITING before it retires behind a frame (R124, R125). -/
theorem countsLater_skipped : CountsLater (fun c => c.state == .waiting) fun _ => false := by
  refine ⟨fun _ _ _ => rfl, fun s q c b carried lasts ends => beq_eq_false_iff_ne.2 fun waits => ?_⟩
  rw [carried.state, ClipEntry.stateAt_eq_waiting] at waits
  omega

/-! ## A burst processed whole (R146, R148) -/

/-- Whether a burst at `p` counts a clip that it retires: by its flag as it stands where the jump retires it, and else by what its
flag will be behind its last frame. -/
def LaneWork.countsRetiring (w : LaneWork) (p : Nat) (flag later : ClipEntry → Bool) (c : ClipEntry) : Bool :=
  if w.x.cursor < p ∧ c.stop + w.x.settings.tailTicks ≤ p then flag c else later c

section
variable {t : Slot} {p : Nat} {beats : List Beat} {w : LaneWork}

theorem LaneWork.plays_process (hb : beats ≠ []) :
    LaneWork.Plays t (w.jump t p) (LaneWork.beats t beats (w.jump t p)).1 := by
  obtain ⟨b, bs, rfl⟩ := List.exists_cons_of_ne_nil hb
  exact LaneWork.plays_beats t b bs _

theorem LaneWork.cursor_beats_jump (h : w.x.cursor ≤ p) :
    (LaneWork.beats t beats (w.jump t p)).1.x.cursor = p + 2 * beats.length := by
  obtain ⟨-, jumped⟩ := w.jump_same t p
  obtain ⟨-, cursor, -⟩ := LaneWork.beats_spec t beats (w.jump t p)
  rw [cursor, jumped, max_eq_right h]

/-- A burst carries each clip of its track to its state at the last frame, and retires those whose e + T the cursor reaches. -/
theorem LaneWork.carries_process (hb : beats ≠ []) (h : w.x.cursor ≤ p) :
    LaneWork.Carries t (p + 2 * beats.length + 1) (ClipEntry.CarriedTo w.x.settings (p + 2 * beats.length - 1)) w
      (LaneWork.process t p beats w).1 := by
  have played := (w.plays_process (t := t) (p := p) hb).carries
  rw [LaneWork.cursor_beats_jump h] at played
  refine .andThen (v := (LaneWork.beats t beats (w.jump t p)).1) ?_ rfl rfl
  rcases h.lt_or_eq with gap | inOrder
  · have jumped := LaneWork.carries_jump (t := t) gap
    rw [jumped.settings] at played
    exact jumped.trans played (by omega) (fun _ _ e => e ▸ .rfl) fun _ _ _ e carried => e ▸ carried
  · rwa [LaneWork.jump_of_le inOrder.ge] at played ⊢

/-- A count of the retired clips rises for those that the jump retires with its flag, and for those that retire behind a frame. -/
theorem LaneWork.count_process {count : ClipCounters → Nat} {flag later : ClipEntry → Bool} (hcount : CountsRetired count flag)
    (hlater : CountsLater flag later) (hb : beats ≠ []) (h : w.x.cursor ≤ p) (lasting : w.Lasting t)
    (hw : count w.x.counters ≤ 65535) :
    count (LaneWork.process t p beats w).1.x.counters =
      min 65535 (count w.x.counters + w.retiring t (w.countsRetiring p flag later) (p + 2 * beats.length)) := by
  have counted := (w.plays_process (t := t) (p := p) hb).counted count flag later hcount hlater
  rw [LaneWork.cursor_beats_jump h] at counted
  change count (LaneWork.beats t beats (w.jump t p)).1.x.counters = _
  rcases h.lt_or_eq with gap | inOrder
  · have jumped := LaneWork.carries_jump (t := t) gap
    have first := hcount.jump (t := t) gap hw
    have split : w.retiring t (w.countsRetiring p flag later) (p + 2 * beats.length) =
        w.retiring t flag p + (w.jump t p).retiring t later (p + 2 * beats.length) := by
      refine jumped.tally_eq_add (fun _ _ e => e ▸ .rfl) (fun i c _ _ past => ?_) fun i c b _ _ late same => ⟨?_, ?_⟩
      · have reached : c.stop + w.x.settings.tailTicks ≤ p := Nat.le_of_lt_succ past
        rw [LaneWork.countsRetiring, if_pos ⟨gap, reached⟩, decide_eq_true reached,
          decide_eq_true (reached.trans (Nat.le_add_right _ _))]
      · rw [decide_eq_false (Nat.not_le.2 late), Bool.and_false]
      · rw [← same, jumped.settings, LaneWork.countsRetiring, if_neg fun reached => Nat.not_le.2 late reached.2]
    rw [counted (jumped.lasting (fun _ _ e => e ▸ .rfl) lasting) (first.trans_le (min_le_left _ _)), first, split]
    omega
  · rw [LaneWork.jump_of_le inOrder.ge] at counted ⊢
    rw [counted lasting hw]
    have noGap : w.countsRetiring p flag later = later := funext fun _ => if_neg fun gap => gap.1.ne inOrder
    rw [noGap]

/-- The clips of a track that retire by a position, counted among those gone. -/
theorem LaneWork.retiring_eq_countP (f : ClipEntry → Bool) (pos : Nat) :
    w.retiring t f pos =
      ((scheduleIn t w.pool).filter fun c => decide (c.2.stop + w.x.settings.tailTicks ≤ pos)).countP fun c => f c.2 :=
  List.countP_filter.symm

end

end Sys2Proof.Machine

section
open Sys2Proof Sys2Proof.Machine Sys2Proof.Safety

/-- Settles O43: the resolution by its three ways, and the burst by its jump and its frames. -/
theorem clipsResolveReleaseAndRetire : Obligations.ClipsResolveReleaseAndRetire := by
  refine ⟨?resolves, ?retires⟩
  case resolves =>
    rintro w i e g k last c level bare clamp (⟨mode, rfl, rfl⟩ | ⟨mode, decided, rfl, rfl⟩ | ⟨mode, rfl, gain, rfl⟩)
    · exact activate_fixed (resolutionOf_fixed mode)
    · exact activate_fast (resolutionOf_fast mode) decided
    · exact activate_full (resolutionOf_full mode) (Int.ofNat_inj.1 (gain.trans (fullGain_cast c level).symm))
  case retires =>
    rintro t p _ beats w _ _ _ nonempty late rfl rfl rfl rfl lasting
    have tail : w.x.settings.tailTicks = 48 * w.x.settings.tail := Nat.mul_comm _ _
    have length : 0 < beats.length := List.length_pos_of_ne_nil nonempty
    have reached : p + 2 * beats.length - 1 + 1 = p + 2 * beats.length := by omega
    obtain ⟨-, others, gone, stays⟩ := LaneWork.carries_process (t := t) nonempty late
    rw [reached, ← tail]
    refine ⟨fun i => ⟨fun none => ?_, fun c hc other => ?_⟩, fun i c hc own => ⟨fun past => ?_, fun left => ?_⟩, ?counts⟩
    · exact (others i fun c hc => nomatch none.symm.trans hc).trans none
    · refine (others i fun b hb => ?_).trans hc
      rwa [← Option.some.inj (hc.symm.trans hb)]
    · exact gone i c hc own (Nat.lt_succ_of_le past)
    · obtain ⟨b, hb, carried⟩ := stays i c hc own left
      exact ⟨b, hb, carried.same, carried.state, carried.kept, carried.resolved⟩
    case counts =>
      rintro _ rfl retired skipped shifted leadClipped
      refine ⟨?_, ?_, ?_, ?_⟩
      · rw [LaneWork.count_process countsRetired_retired (countsLater_of_same fun _ _ _ => rfl) nonempty late lasting retired,
          LaneWork.retiring_eq_countP]
        simp only [LaneWork.countsRetiring, ite_self, List.countP_true]
      · rw [LaneWork.count_process countsRetired_shifted (countsLater_of_same fun _ _ h => h.flags.1) nonempty late lasting shifted,
          LaneWork.retiring_eq_countP]
        simp only [LaneWork.countsRetiring, ite_self]
      · rw [LaneWork.count_process countsRetired_leadClipped (countsLater_of_same fun _ _ h => h.flags.2) nonempty late lasting
          leadClipped, LaneWork.retiring_eq_countP]
        simp only [LaneWork.countsRetiring, ite_self]
      · rw [LaneWork.count_process countsRetired_skipped countsLater_skipped nonempty late lasting skipped,
          LaneWork.retiring_eq_countP]
        congr 3
        funext c
        by_cases jumped : w.x.cursor < p ∧ c.2.stop + w.x.settings.tailTicks ≤ p
        · simp [LaneWork.countsRetiring, jumped, Bool.beq_eq_decide_eq]
        · rw [LaneWork.countsRetiring, if_neg jumped, eq_comm, decide_eq_false_iff_not]
          exact fun h => jumped ⟨h.1, h.2.2⟩

end

end
